-- ==== Sys2Proof/Word.lean ====
section
/-! DEFINITION. The words of the OS7128: bytes of the ports, the 16-bit and 32-bit counters, and the two
numberings (128 head positions, 8 recipe slots) that the spec fixes whatever the configuration. -/

namespace Sys2Proof

/-- One byte of a port frame (R188). -/
abbrev Byte := BitVec 8

/-- A 16-bit counter or event word (00_scope, "Counters and serials"; R204). -/
abbrev U16 := BitVec 16

/-- A 32-bit counter, serial or seq value (00_scope, "Counters and serials"). -/
abbrev U32 := BitVec 32

/-- A head position: the part has 128 of them, whatever N is configured (R21, R36, R92). -/
abbrev HeadId := Fin 128

/-- A recipe slot number, 0 to 7 (section 6.1). -/
abbrev Slot := Fin 8

end Sys2Proof
end

