-- ==== Sys2Proof/Syntax.lean ====
section
/-! DEFINITION. The commands of the OS7128: one constructor of `Instr` per row of spec/opcode_table.json.

Every command carries `dt`, the time in microseconds that has passed since the command before it
(DESIGN CHOICE, notes/assumptions/1.md). Commands on a pin or a timer of one head carry the head position; those
on a port carry the port. A request command (NOP to LEVEL_REPORT) is the PROCESSING COMPLETION of that request
(R195): its operand bytes stand in the port's request slot, where FRAME_END has put them
(notes/assumptions/4.md). -/

namespace Sys2Proof

/-- The two ports (chapter 10). -/
inductive Port where
  | line
  | inspection
  deriving DecidableEq, Repr

/-- The four valve outputs of a head (section 2.6): pressurize, fast fill, slow fill, snift. -/
inductive Output where
  | p
  | f
  | s
  | v
  deriving DecidableEq, Repr

/-- The commands the part takes from outside, in the order of spec/opcode_table.json. -/
inductive Instr where
  /-- RST_N or power-up (R1, R21, R36, R92, R115, R124, R134, R170, R187). -/
  | powerOnReset (dt : Nat)
  /-- New levels of ENCA and ENCB, with the INFEED level while the change is handled (R2, R27). -/
  | encoderCount (dt : Nat) (a b infeed : Bool)
  /-- Rising edge of ENCZ, with the INFEED level while it is handled (R7). -/
  | indexArrival (dt : Nat) (infeed : Bool)
  /-- The stop clock reaches the stop timeout (R14). -/
  | stopTimeout (dt : Nat)
  /-- Rising edge of MP of a head (R23). -/
  | meterPulse (dt head : Nat)
  /-- New level of PS of a head, true for ASSERTED (R28). -/
  | psPinChange (dt head : Nat) (level : Bool)
  /-- The 2 ms pressure filter of a head expires (R28). -/
  | pressureFilterExpiry (dt head : Nat)
  /-- The settle timer of one output of a head expires (R31). -/
  | valveSettleExpiry (dt head : Nat) (out : Output)
  /-- New level of one coil sense input of a head, true for asserted (R32). -/
  | coilSenseChange (dt head : Nat) (out : Output) (level : Bool)
  /-- New level of ESTOP, true for ASSERTED (R34). -/
  | estopChange (dt : Nat) (level : Bool)
  /-- The no-flow timer of a head expires (R50). -/
  | noFlowExpiry (dt head : Nat)
  /-- The hold timer of a head expires (R55). -/
  | holdExpiry (dt head : Nat)
  /-- The settle timer of a head's cycle expires (R58). -/
  | settleTimerExpiry (dt head : Nat)
  /-- The snift timer of a head expires (R60). -/
  | sniftTimerExpiry (dt head : Nat)
  /-- The ATTN pulse of a port ends (R199). -/
  | attnPulseEnd (dt : Nat) (port : Port)
  /-- The rise of a port's select input, with the levels of its data input at the clocks of the frame, one for each
  clock, first clock first (R188, R192, R193). -/
  | frameEnd (dt : Nat) (port : Port) (bits : List Bool)
  /-- Completion of NOP (R195). -/
  | nop (dt : Nat) (port : Port)
  /-- Completion of IDENTIFY (R186). -/
  | identify (dt : Nat) (port : Port)
  /-- Completion of STATUS (R185). -/
  | status (dt : Nat) (port : Port)
  /-- Completion of EVENTS_READ (R200). -/
  | eventsRead (dt : Nat) (port : Port)
  /-- Completion of EVENTS_MASK (R201). -/
  | eventsMask (dt : Nat) (port : Port)
  /-- Completion of MODE_PRODUCE (R172). -/
  | modeProduce (dt : Nat)
  /-- Completion of MODE_DRAIN (R173). -/
  | modeDrain (dt : Nat)
  /-- Completion of MODE_HALT (R175). -/
  | modeHalt (dt : Nat)
  /-- Completion of MODE_RESUME (R176). -/
  | modeResume (dt : Nat)
  /-- Completion of MODE_SETUP (R176). -/
  | modeSetup (dt : Nat)
  /-- Completion of RESTART (R184, R202). -/
  | restart (dt : Nat)
  /-- Completion of CONFIG_WRITE (R179, R180). -/
  | configWrite (dt : Nat)
  /-- Completion of CONFIG_READ (R181). -/
  | configRead (dt : Nat)
  /-- Completion of TUNING_WRITE (R182). -/
  | tuningWrite (dt : Nat)
  /-- Completion of TUNING_READ (R181). -/
  | tuningRead (dt : Nat)
  /-- Completion of ANGLE_REARM (R13). -/
  | angleRearm (dt : Nat)
  /-- Completion of POCKETS_CLEAR (R183). -/
  | pocketsClear (dt : Nat)
  /-- Completion of RECIPE_WRITE (R119). -/
  | recipeWrite (dt : Nat)
  /-- Completion of RECIPE_READ (R121). -/
  | recipeRead (dt : Nat)
  /-- Completion of RECIPE_ERASE (R120). -/
  | recipeErase (dt : Nat)
  /-- Completion of STACK_PUSH (R125). -/
  | stackPush (dt : Nat)
  /-- Completion of STACK_POP (R126). -/
  | stackPop (dt : Nat)
  /-- Completion of STACK_REPLACE (R127). -/
  | stackReplace (dt : Nat)
  /-- Completion of STACK_READ (R128). -/
  | stackRead (dt : Nat)
  /-- Completion of HEAD_READ (R114, R205). -/
  | headRead (dt : Nat) (port : Port)
  /-- Completion of HEAD_CAL_WRITE (R103). -/
  | headCalWrite (dt : Nat)
  /-- Completion of HEAD_TRIM_SET (R104). -/
  | headTrimSet (dt : Nat)
  /-- Completion of HEAD_LEAD_SET (R106). -/
  | headLeadSet (dt : Nat)
  /-- Completion of HEAD_BLOCK (R95). -/
  | headBlock (dt : Nat)
  /-- Completion of HEAD_RELEASE (R96). -/
  | headRelease (dt : Nat)
  /-- Completion of HEAD_STATS_CLEAR (R112). -/
  | headStatsClear (dt : Nat)
  /-- Completion of TRACE_STATUS (R151). -/
  | traceStatus (dt : Nat) (port : Port)
  /-- Completion of TRACE_NEXT (R148). -/
  | traceNext (dt : Nat) (port : Port)
  /-- Completion of TRACE_FIND (R150). -/
  | traceFind (dt : Nat) (port : Port)
  /-- Completion of TRACE_REWIND (R149). -/
  | traceRewind (dt : Nat) (port : Port)
  /-- Completion of TRACE_CLEAR (R144). -/
  | traceClear (dt : Nat)
  /-- Completion of SERIAL_SET (R152). -/
  | serialSet (dt : Nat)
  /-- Completion of LEVEL_REPORT (R154 to R167). -/
  | levelReport (dt : Nat)
  /-- The fall of a port's select input (R189). -/
  | selectFall (dt : Nat) (port : Port)
  deriving DecidableEq, Repr

end Sys2Proof
end

