-- ==== Sys2Proof/Decode.lean ====
section
/-! DEFINITION. The decoder of spec/opcode_table.json's words. No row of the table gives bits ("fields": [] and no
"fixed" in every row), so no word spells a command. The request codes of the ports are read in
Sys2Proof/Machine/Requests.lean. -/

namespace Sys2Proof

/-- The command that a word of `nbits` bits spells by the table's bits: none, because no row of the table has bits
(spec/98_reader.md: "n_rows_with_fixed": 0, "n_rows_with_fields": 0). -/
def decodeTableWord (_nbits _w : Nat) : Option Instr := none

end Sys2Proof
end

