-- ==== Sys2Proof/Machine/Types.lean ====
section
/-! DEFINITION. The data the blocks of the OS7128 hold: the named states, modes, outcomes and records of the
manual's chapters. Levels and commands are Booleans: true is ASSERTED of an input (R20) and OPEN of a valve command
(section 2.6). Times are microseconds on the model's own time base (notes/assumptions/1.md). -/

namespace Sys2Proof.Machine

/-! ## Angle tracker (chapter 1) -/

/-- Reference state (section 1.6). -/
inductive RefState where
  | unreferenced
  | tracking
  | fault
  deriving DecidableEq, Repr

/-- Motion state (section 1.8). -/
inductive Motion where
  | stopped
  | running
  | reversing
  deriving DecidableEq, Repr

/-- Tracker state (section 1.1). The stop clock and the revolution clock are held as the times they last restarted. -/
structure Tracker where
  angle : Nat
  debt : Nat
  ref : RefState
  slips : Nat
  indexMark : Bool
  revolutions : U32
  motion : Motion
  stopStart : Nat
  revStart : Nat
  timingMark : Bool
  speed : Nat
  deriving DecidableEq, Repr

/-! ## Timers -/

/-- A running timer: when it started, and for how long it runs. An idle timer is `none`. -/
structure Timer where
  start : Nat
  period : Nat
  deriving DecidableEq, Repr

/-! ## Head signal interface (chapter 2) -/

/-- One value for each of the four outputs of a head. -/
structure Outputs (α : Type) where
  p : α
  f : α
  s : α
  v : α
  deriving DecidableEq, Repr

/-- A running pressure filter: its candidate level and when it started (R28). -/
structure PressureFilter where
  candidate : Bool
  start : Nat
  deriving DecidableEq, Repr

/-- Interface state of one head (section 2.1). -/
structure Iface where
  lastPulse : Option Nat
  glitches : U16
  drips : U16
  pressure : Bool
  filter : Option PressureFilter
  cmd : Outputs Bool
  settle : Outputs (Option Timer)
  deriving DecidableEq, Repr

/-! ## Head sequencer (chapter 3) -/

/-- The eleven fill states (section 3.2). -/
inductive FillState where
  | idle
  | armed
  | pressurizing
  | pressurized
  | fillFast
  | fillSlow
  | held
  | settle
  | snift
  | discharge
  | pass
  deriving DecidableEq, Repr

/-- The ten outcomes (R62). -/
inductive FillOutcome where
  | ok
  | outOfTol
  | short
  | overrun
  | noFlow
  | noPressure
  | burst
  | valve
  | aborted
  | notFilled
  deriving DecidableEq, Repr

/-- Why a container was not filled (section 3.1). -/
inductive NotFilledReason where
  | blocked
  | planRange
  | drain
  | halt
  | setup
  deriving DecidableEq, Repr

/-- The dose plan (section 4.1). -/
structure Plan where
  slot : Slot
  vT : Nat
  vSlow : Nat
  d : Nat
  epoch : U16
  l16 : Nat
  pTarget : Nat
  lead : Nat
  pClose : Nat
  pSlow : Nat
  pSwitch : Nat
  cPress : Nat
  cFill : Nat
  cClose : Nat
  cSnift : Nat
  cRelease : Nat
  noFlow : Nat
  settle : Nat
  snift : Nat
  tolerance : Nat
  oMax : Nat
  leadGain : Nat
  deriving DecidableEq, Repr

/-- The cycle header (section 3.1, R42, R43). -/
structure CycleHeader where
  slot : Slot
  product : U16
  vT : Nat
  epoch : U16
  release : Nat
  resumeReject : Bool
  deriving DecidableEq, Repr

/-- The close record (R49): local angle in counts, and fill duration in ms. -/
structure CloseRecord where
  angle : Nat
  duration : Nat
  deriving DecidableEq, Repr

/-- Sequencer state (section 3.1). The fill clock is held as the time the fill valve opened. -/
structure Sequencer where
  state : FillState
  plan : Option Plan
  header : Option CycleHeader
  fillCount : U16
  overrunCount : U16
  fillOpened : Bool
  fillClock : Option Nat
  close : Option CloseRecord
  outcome : Option FillOutcome
  reason : Option NotFilledReason
  resumed : Bool
  shortSettle : Bool
  sniftShort : Bool
  settleDone : Bool
  sniftAngle : Bool
  noFlowTimer : Option Timer
  holdTimer : Option Timer
  settleTimer : Option Timer
  sniftTimer : Option Timer
  deriving DecidableEq, Repr

/-- The boundaries a sequencer receives (R18). -/
inductive Boundary where
  | infeed
  | press
  | fill
  | close
  | snift
  | release
  deriving DecidableEq, Repr

/-! ## Head table (chapter 5) -/

/-- Why a head is auto-blocked (section 5.1). -/
inductive BlockReason where
  | faults
  | valve
  deriving DecidableEq, Repr

/-- Service state; the auto-block reason is present in AUTO_BLOCKED and absent otherwise (section 5.1). -/
inductive Service where
  | inService
  | blocked
  | autoBlocked (reason : BlockReason)
  deriving DecidableEq, Repr

/-- The sixteen statistics counters of a head (R101). -/
structure Stats where
  fillsStarted : U16
  recordsMade : U16
  emptyPockets : U16
  ok : U16
  outOfTol : U16
  short : U16
  overrun : U16
  noFlow : U16
  noPressure : U16
  burst : U16
  valve : U16
  aborted : U16
  notFilled : U16
  reportsApplied : U16
  reportsNotApplied : U16
  dripTotal : U16
  deriving DecidableEq, Repr

/-- One record of the head table (section 5.1). -/
structure HeadRecord where
  service : Service
  q : Nat
  trim : Int
  frozen : Bool
  epoch : U16
  l16 : Nat
  faults : Nat
  suspect : Nat
  dripWarning : Bool
  history : List FillOutcome
  lastDeviation : Option Int
  stats : Stats
  deriving DecidableEq, Repr

/-- Everything held for one head position: its sequencer, its interface state, its head table record, and the
levels on its PS pin and its four coil sense inputs. -/
structure Head where
  seq : Sequencer
  iface : Iface
  entry : HeadRecord
  psPin : Bool
  sense : Outputs Bool
  deriving DecidableEq, Repr

/-! ## Recipes and the recipe stack (chapter 6) -/

/-- A recipe record (section 6.1). -/
structure Recipe where
  product : U16
  vT : Nat
  vSlow : Nat
  tolerance : Nat
  deadBand : Nat
  grossLimit : Nat
  trimGain : Nat
  leadGain : Nat
  oMax : Nat
  noFlow : Nat
  settle : Nat
  snift : Nat
  aPress : Nat
  aFill : Nat
  aClose : Nat
  aSnift : Nat
  aRelease : Nat
  resumeReject : Bool
  deriving DecidableEq, Repr

/-- A stack entry: a slot, and a remaining count or none (section 6.4). -/
structure StackEntry where
  slot : Slot
  count : Option Nat
  deriving DecidableEq, Repr

/-- The recipe stack, top first, and its spill counter (section 6.4). The maximum depth is a configuration field. -/
structure RecipeStack where
  entries : List StackEntry
  spills : U16
  deriving DecidableEq, Repr

/-! ## Trace queue (chapter 7) -/

/-- The six flags of a trace record (R68). -/
structure RecordFlags where
  suspect : Bool
  resumed : Bool
  shortSettle : Bool
  sniftShort : Bool
  cleared : Bool
  reject : Bool
  deriving DecidableEq, Repr

/-- The metered fields of a trace record (R90). -/
structure Metered where
  total : Nat
  vMeter : Nat
  pClose : Nat
  deriving DecidableEq, Repr

/-- What the sequencer hands over at record creation (R69). -/
structure RecordDraft where
  head : HeadId
  slot : Slot
  product : U16
  vT : Nat
  epoch : U16
  outcome : FillOutcome
  flags : RecordFlags
  reason : Option NotFilledReason
  metered : Option Metered
  close : Option CloseRecord
  revolution : U32
  deriving DecidableEq, Repr

/-- A stored trace record: the sequencer's record with its seq and its serial, if it has one (section 7.2). -/
structure TraceRecord where
  seq : U32
  serial : Option U32
  body : RecordDraft
  deriving DecidableEq, Repr

/-- Queue state (section 7.1). The seq counter equals the created counter, so it is held once, as `created`. -/
structure TraceQueue where
  held : List TraceRecord
  created : U32
  nextSerial : U32
  matched : U32
  expired : U32
  evicted : U32
  cleared : U32
  lost : U32
  lineCursor : U32
  inspCursor : U32
  deriving DecidableEq, Repr

/-- What a full queue does with a new record (R138, R139). -/
inductive TraceMode where
  | roll
  | hold
  deriving DecidableEq, Repr

/-! ## Level reports (chapter 8) -/

/-- The classification of a matched report (R159). -/
inductive Classification where
  | unmeasured
  | noLearn
  | stale
  | frozen
  | deadBand
  | gross
  | applied
  deriving DecidableEq, Repr

/-- What the lookup of a reported serial ends in, when no record is found (R156). -/
inductive ReportError where
  | notYet
  | tooLate
  | notFound
  deriving DecidableEq, Repr

/-! ## Mode controller (chapter 9) -/

/-- The filler mode (section 9.1). -/
inductive Mode where
  | setup
  | production
  | drain
  | halt
  deriving DecidableEq, Repr

/-- The configuration block (section 9.5). -/
structure ConfigBlock where
  n : Nat
  t : Nat
  tolerance : Nat
  stopTimeout : Nat
  depth : Nat
  traceMode : TraceMode
  horizon : Nat
  spacing : Nat
  valveSettle : Nat
  holdLimit : Nat
  deriving DecidableEq, Repr

/-- The tuning block (section 9.6). -/
structure TuningBlock where
  trimLimit : Nat
  blockThreshold : Nat
  suspectTurns : Nat
  dripLimit : Nat
  traceThreshold : Nat
  deriving DecidableEq, Repr

/-! ## Ports (chapter 10) -/

/-- The requests of the request code table. -/
inductive Request where
  | nop
  | identify
  | status
  | eventsRead
  | eventsMask
  | modeProduce
  | modeDrain
  | modeHalt
  | modeResume
  | modeSetup
  | restart
  | configWrite
  | configRead
  | tuningWrite
  | tuningRead
  | angleRearm
  | pocketsClear
  | recipeWrite
  | recipeRead
  | recipeErase
  | stackPush
  | stackPop
  | stackReplace
  | stackRead
  | headRead
  | headCalWrite
  | headTrimSet
  | headLeadSet
  | headBlock
  | headRelease
  | headStatsClear
  | traceStatus
  | traceNext
  | traceFind
  | traceRewind
  | traceClear
  | serialSet
  | levelReport
  deriving DecidableEq, Repr

/-- A request in a port's slot: which request, and its operand bytes (section 10.1). -/
structure PendingRequest where
  request : Request
  operands : List Byte
  deriving DecidableEq, Repr

/-- The status codes (chapter 11, "Codes"). -/
inductive Status where
  | ok
  | notReady
  | badCheck
  | badFrame
  | unknownRequest
  | notPermitted
  | wrongMode
  | badValue
  | inUse
  | notFound
  | tooLate
  | notYet
  | floor
  | headsBusy
  | empty
  deriving DecidableEq, Repr

/-- A response: its status code and its data bytes. The collision flag and the check byte are added as it is shifted
out (R189). -/
structure Response where
  status : Status
  data : List Byte
  deriving DecidableEq, Repr

/-- What an open frame shifts out, fixed at the fall of select (R189): a NOT_READY response or the buffered response,
each with the collision flag its status byte shows, or filler. -/
inductive FrameOut where
  | notReady (flag : Bool)
  | response (r : Response) (flag : Bool)
  | filler
  deriving DecidableEq, Repr

/-- ATTN mode (section 10.7). -/
inductive AttnMode where
  | level
  | pulse
  deriving DecidableEq, Repr

/-- The event kinds (section 10.7). -/
inductive EventKind where
  | modeChange
  | angleFault
  | headBlocked
  | headWarning
  | stackNotice
  | traceLevel
  | traceLoss
  | rejectStored
  | portError
  deriving DecidableEq, Repr

/-- Port state (section 10.1), with the open frame (R188) and the start of the ATTN pulse in progress (R199). The
report-error counter, which the inspection port alone has, stands in `State.reportErrors`. -/
structure PortState where
  slot : Option PendingRequest
  buffer : Option Response
  collision : Bool
  checkErrors : U16
  frameErrors : U16
  collisions : U16
  events : U16
  mask : U16
  attnMode : AttnMode
  pulse : Option Nat
  frame : Option FrameOut
  deriving DecidableEq, Repr

end Sys2Proof.Machine
end

