-- ==== Sys2Proof/Machine/Arith.lean ====
section
/-! DEFINITION. The arithmetic of the manual: saturating counters, rounding, clamping, and the little-endian byte
order of the ports. -/

namespace Sys2Proof.Machine

/-- A 16-bit counter that saturates at 65535, incremented (00_scope, "Counters and serials"). -/
def satInc (x : U16) : U16 := if x = 65535 then x else x + 1

/-- A 16-bit counter that saturates at 65535, increased by `n` (R26, R132). -/
def satAdd (x : U16) (n : Nat) : U16 := BitVec.ofNat 16 (min (x.toNat + n) 65535)

/-- The quotient of two naturals, rounded half up (R74). -/
def roundHalfUp (a b : Nat) : Nat := if b ≤ 2 * (a % b) then a / b + 1 else a / b

/-- The quotient of a signed dividend, rounded half away from zero (R74). -/
def roundHalfAway (x : Int) (b : Nat) : Int :=
  if x < 0 then -(roundHalfUp x.natAbs b : Int) else (roundHalfUp x.natAbs b : Int)

/-- `x` brought into the range `lo` to `hi` (R180, R182). -/
def clampNat (lo hi x : Nat) : Nat := if x < lo then lo else if hi < x then hi else x

/-- `x` brought into the range `-m` to `m` (R104, R109, R164). -/
def clampTrim (m : Nat) (x : Int) : Int := if (m : Int) < x then m else if x < -(m : Int) then -(m : Int) else x

/-- The low `k` bytes of `n`, least significant byte first (R203). -/
def leBytes : Nat → Nat → List Byte
  | 0, _ => []
  | k + 1, n => BitVec.ofNat 8 n :: leBytes k (n / 256)

/-- The unsigned value of bytes sent least significant byte first (R203). -/
def leValue : List Byte → Nat
  | [] => 0
  | b :: bs => b.toNat + 256 * leValue bs

/-- A signed value in two bytes of two's complement, least significant byte first (R203). -/
def leSigned (x : Int) : List Byte := leBytes 2 (BitVec.ofInt 16 x).toNat

end Sys2Proof.Machine
end

