-- ==== Sys2Proof/Config.lean ====
section
/-! DEFINITION. What an implementation of the OS7128 fixes: the constants the spec gives, and the one value the
spec leaves open, as an opaque constant nothing in Lean can evaluate. -/

namespace Sys2Proof

/-- The key that orders the heads of one event which the spec leaves unordered (R135: "Each order gives the result
… applied in that order"): at the n-th such choice, heads are handed on by rising key. FREE VALUE
(notes/assumptions/7.md): every order of the heads is the order of some key. -/
opaque Config.deliveryKey : Nat → Nat → Nat

/-- The pressure filter time, 2 ms, in microseconds (R28). -/
def Config.filterTime : Nat := 2000

/-- The ATTN pulse length, 2 µs (R199). -/
def Config.pulseTime : Nat := 2

/-- The vendor code (R186). -/
def Config.vendorCode : Nat := 0x5042

/-- The part code (R186). -/
def Config.partCode : Nat := 0x7128

/-- The revision (R186). -/
def Config.revision : Nat := 1

end Sys2Proof
end

