-- ==== Sys2Proof/Machine/Flags.lean ====
section
/-! DEFINITION. The flags and event words: the flags decided at record creation (R68), the event bits and which port
keeps which kind (R197, R204), and the ATTN output (R198, R199). -/

namespace Sys2Proof.Machine

/-- The bit of an event kind in the event word (chapter 11, "Codes"). -/
def EventKind.bit : EventKind → U16
  | .modeChange => 0x0001
  | .angleFault => 0x0002
  | .headBlocked => 0x0004
  | .headWarning => 0x0008
  | .stackNotice => 0x0010
  | .traceLevel => 0x0020
  | .traceLoss => 0x0040
  | .rejectStored => 0x0080
  | .portError => 0x0100

/-- Whether a port keeps an event kind (section 10.7). -/
def keepsKind : Port → EventKind → Bool
  | .line, .rejectStored => false
  | .line, _ => true
  | .inspection, .modeChange => true
  | .inspection, .traceLevel => true
  | .inspection, .traceLoss => true
  | .inspection, .rejectStored => true
  | .inspection, .portError => true
  | .inspection, _ => false

/-- The event word with every kind of the port set (section 10.7). -/
def keptBits : Port → U16
  | .line => 0x017F
  | .inspection => 0x01E1

/-- Whether the bits `b` are not all clear in `w`. -/
def anySet (w b : U16) : Bool := (w &&& b) != 0

/-- The ATTN output of a port: in LEVEL it follows the masked status (R198), in PULSE the pulse in progress (R199). -/
def PortState.attn (p : PortState) : Bool :=
  match p.attnMode with
  | .level => anySet p.events p.mask
  | .pulse => p.pulse.isSome

/-- A port that keeps the kind takes a raised event: the status bit is set (R197), and in PULSE a masked bit that was
clear gives a pulse from now (R199). -/
def PortState.take (now : Nat) (k : EventKind) (p : PortState) : PortState :=
  { p with
    events := p.events ||| k.bit
    pulse := if p.attnMode = .pulse ∧ anySet p.mask k.bit ∧ ¬ anySet p.events k.bit then some now else p.pulse }

/-- The flags of the record made of a cycle (R68): SUSPECT from the head's suspect count, CLEARED at POCKETS_CLEAR,
and REJECT as R68 decides it. -/
def recordFlags (q : Sequencer) (e : HeadRecord) (outcome : FillOutcome) (resumeReject cleared : Bool) :
    RecordFlags where
  suspect := decide (0 < e.suspect)
  resumed := q.resumed
  shortSettle := q.shortSettle
  sniftShort := q.sniftShort
  cleared := cleared
  reject := decide (outcome ≠ .ok) || decide (0 < e.suspect) || q.sniftShort || (q.resumed && resumeReject)

end Sys2Proof.Machine
end

