-- ==== Sys2Proof/Machine/ResetValues.lean ====
section
/-! DEFINITION. The value of each piece of state after power-on reset, as the chapters state it. -/

namespace Sys2Proof.Machine

/-- The same value for all four outputs. -/
def allOutputs {α : Type} (x : α) : Outputs α := ⟨x, x, x, x⟩

/-- The tracker after either reset, its clocks restarting at `now` (R1). -/
def trackerReset (now : Nat) : Tracker where
  angle := 0
  debt := 0
  ref := .unreferenced
  slips := 0
  indexMark := false
  revolutions := 0
  motion := .stopped
  stopStart := now
  revStart := now
  timingMark := false
  speed := 0

/-- The interface state of a head after either reset, with the level on its PS pin (R21). -/
def ifaceReset (psPin : Bool) : Iface where
  lastPulse := none
  glitches := 0
  drips := 0
  pressure := psPin
  filter := none
  cmd := allOutputs false
  settle := allOutputs none

/-- The sequencer after either reset (R36). -/
def seqReset : Sequencer where
  state := .idle
  plan := none
  header := none
  fillCount := 0
  overrunCount := 0
  fillOpened := false
  fillClock := none
  close := none
  outcome := none
  reason := none
  resumed := false
  shortSettle := false
  sniftShort := false
  settleDone := false
  sniftAngle := false
  noFlowTimer := none
  holdTimer := none
  settleTimer := none
  sniftTimer := none

/-- All sixteen counters at 0 (R92, R112). -/
def statsZero : Stats := ⟨0, 0, 0, 0, 0, 0, 0, 0, 0, 0, 0, 0, 0, 0, 0, 0⟩

/-- A head table record after power-on reset (R92). -/
def entryPowerOn : HeadRecord where
  service := .inService
  q := 25000
  trim := 0
  frozen := false
  epoch := 0
  l16 := 0
  faults := 0
  suspect := 0
  dripWarning := false
  history := []
  lastDeviation := none
  stats := statsZero

/-- A head after power-on reset, with the levels on its pins (R21, R36, R92). -/
def headPowerOn (psPin : Bool) (sense : Outputs Bool) : Head where
  seq := seqReset
  iface := ifaceReset psPin
  entry := entryPowerOn
  psPin := psPin
  sense := sense

/-- The default recipe (R115). -/
def defaultRecipe : Recipe where
  product := 0
  vT := 5000
  vSlow := 600
  tolerance := 20
  deadBand := 2
  grossLimit := 150
  trimGain := 2
  leadGain := 2
  oMax := 40
  noFlow := 150
  settle := 120
  snift := 180
  aPress := 300
  aFill := 600
  aClose := 2700
  aSnift := 2850
  aRelease := 3300
  resumeReject := true

/-- The recipe store after power-on reset: slot 0 holds the default recipe, slots 1 to 7 are empty (R115). -/
def recipesPowerOn : Vector (Option Recipe) 8 :=
  (Vector.replicate 8 none).set 0 (some defaultRecipe)

/-- The recipe stack after either reset: slot 0 with no count, spill counter 0 (R124). -/
def stackReset : RecipeStack := ⟨[⟨0, none⟩], 0⟩

/-- The trace queue after either reset (R134). -/
def queueReset : TraceQueue where
  held := []
  created := 0
  nextSerial := 1
  matched := 0
  expired := 0
  evicted := 0
  cleared := 0
  lost := 0
  lineCursor := 0
  inspCursor := 0

/-- The configuration block's defaults (R170, section 9.5). -/
def configDefault : ConfigBlock where
  n := 24
  t := 8192
  tolerance := 2
  stopTimeout := 200
  depth := 6
  traceMode := .roll
  horizon := 3
  spacing := 20
  valveSettle := 15
  holdLimit := 30

/-- The tuning block's defaults (R170, section 9.6). -/
def tuningDefault : TuningBlock where
  trimLimit := 300
  blockThreshold := 3
  suspectTurns := 1
  dripLimit := 8
  traceThreshold := 64

/-- A port after power-on reset (R187). -/
def portPowerOn : PortState where
  slot := none
  buffer := none
  collision := false
  checkErrors := 0
  frameErrors := 0
  collisions := 0
  events := 0
  mask := 0
  attnMode := .level
  pulse := none
  frame := none

end Sys2Proof.Machine
end

