-- ==== Sys2Proof/Machine/State.lean ====
section
/-! DEFINITION. The state of the OS7128 as plain data, the two reason types of a step, and the state right after
power-on reset. -/

namespace Sys2Proof.Machine

/-- Why a step stops with a fault. -/
inductive Fault where
  /-- Raised by a command that names a head position of 128 or above: the part has 128 head positions (R21), so no
  such pin, timer or record exists. Safe: the part takes no such event. -/
  | noSuchHead (head : Nat)
  deriving DecidableEq, Repr

/-- Why a step is refused. -/
inductive Refusal where
  /-- Raised by `exec` alone, for a command of the opcode table that has no meaning in this model. Safe. -/
  | notModelled (mnemonic : String)
  deriving DecidableEq, Repr

/-- All the state the spec gives the part, the levels on its input pins, and the queue of waiting commands.
`now`, `choices` and `pending` are the model's own. -/
structure State where
  /-- The model's time base in microseconds (notes/assumptions/1.md). -/
  now : Nat
  /-- Level of ENCA, which is also the decoder's record of it (R2). -/
  encA : Bool
  /-- Level of ENCB, which is also the decoder's record of it (R2). -/
  encB : Bool
  /-- Level of INFEED, asserted for a container present (R20, R27). -/
  infeed : Bool
  /-- The ESTOP level, which is that of its pin, true for ASSERTED (R34). -/
  estop : Bool
  /-- The angle tracker (chapter 1). -/
  tracker : Tracker
  /-- The 128 head positions (chapters 2, 3 and 5). -/
  heads : Vector Head 128
  /-- The recipe store; an empty slot is `none` (chapter 6). -/
  recipes : Vector (Option Recipe) 8
  /-- The recipe stack (chapter 6). -/
  stack : RecipeStack
  /-- The trace queue (chapter 7). -/
  queue : TraceQueue
  /-- The filler mode (chapter 9). -/
  mode : Mode
  /-- The configuration block (chapter 9). -/
  cfg : ConfigBlock
  /-- The tuning block (chapter 9). -/
  tuning : TuningBlock
  /-- The line port (chapter 10). -/
  line : PortState
  /-- The inspection port (chapter 10). -/
  insp : PortState
  /-- The inspection port's report-error counter (R157, R194). -/
  reportErrors : U16
  /-- How many times a free order of heads has been used (notes/assumptions/7.md). -/
  choices : Nat
  /-- The commands that wait, first in, first out. -/
  pending : List Instr
  deriving DecidableEq, Repr

/-- The part right after power-on reset, with its input pins low and its queue empty
(R1, R21, R36, R92, R115, R124, R134, R170, R187; the pin levels: notes/assumptions/5.md). -/
def State.reset : State where
  now := 0
  encA := false
  encB := false
  infeed := false
  estop := false
  tracker := trackerReset 0
  heads := Vector.replicate 128 (headPowerOn false (allOutputs false))
  recipes := recipesPowerOn
  stack := stackReset
  queue := queueReset
  mode := .setup
  cfg := configDefault
  tuning := tuningDefault
  line := portPowerOn
  insp := portPowerOn
  reportErrors := 0
  choices := 0
  pending := []

end Sys2Proof.Machine
end

