-- ==== Sys2Proof/Machine/Ops.lean ====
section
/-! DEFINITION. The named operations over the state: access to a head, to a port and to the bulk of the heads, the
passage of time, the raising of events, the order of heads the spec leaves open, and the two shapes of a command
(one on a head position, one that completes a request). -/

namespace Sys2Proof.Machine

/-- What a command answers. -/
abbrev Result := Host.Outcome State Fault Refusal

/-! ## Heads -/

/-- The head at position `h`. -/
def State.head (s : State) (h : HeadId) : Head := s.heads[h.val]

/-- The state with the head at `h` changed by `f`. -/
def State.updHead (s : State) (h : HeadId) (f : Head → Head) : State :=
  { s with heads := s.heads.set h.val (f (s.head h)) h.isLt }

/-- The state with every head changed by `f`. -/
def State.mapHeads (s : State) (f : HeadId → Head → Head) : State :=
  { s with heads := Vector.ofFn fun h => f h (s.head h) }

/-- The state with every head below N changed by `f`: how the tracker and the mode controller deliver one event to
every sequencer below N (R4, R5, R14, R175). -/
def State.mapBelow (s : State) (f : Head → Head) : State :=
  s.mapHeads fun h x => if h.val < s.cfg.n then f x else x

/-- Whether some head satisfies `p`. -/
def State.anyHead (s : State) (p : Head → Bool) : Bool := (List.finRange 128).any fun h => p (s.head h)

/-- How many heads satisfy `p`. -/
def State.countHeads (s : State) (p : Head → Bool) : Nat := ((List.finRange 128).filter fun h => p (s.head h)).length

/-! ## Ports -/

/-- The state of a port. -/
def State.port (s : State) : Port → PortState
  | .line => s.line
  | .inspection => s.insp

/-- The state with a port changed by `f`. -/
def State.updPort (s : State) (p : Port) (f : PortState → PortState) : State :=
  match p with
  | .line => { s with line := f s.line }
  | .inspection => { s with insp := f s.insp }

/-- An event of kind `k` raised on port `p`, if the port keeps the kind (R197). -/
def State.raiseOn (s : State) (p : Port) (k : EventKind) : State :=
  if keepsKind p k then s.updPort p (PortState.take s.now k) else s

/-- An event of kind `k` raised on every port that keeps the kind (section 10.7). PORT_ERROR is raised by `raiseOn`
alone, since it belongs to one port. -/
def State.raise (s : State) (k : EventKind) : State := (s.raiseOn .line k).raiseOn .inspection k

/-! ## Time -/

/-- `dt` microseconds pass. -/
def State.elapse (s : State) (dt : Nat) : State := { s with now := s.now + dt }

/-- A timer started now for `ms` milliseconds. -/
def startTimer (now ms : Nat) : Option Timer := some ⟨now, ms * 1000⟩

/-- Whether a timer is running and has run its period at `now`. -/
def timerDue (now : Nat) : Option Timer → Bool
  | none => false
  | some t => decide (t.start + t.period ≤ now)

/-- The whole milliseconds from `start` to `now`. -/
def elapsedMs (now start : Nat) : Nat := (now - start) / 1000

/-! ## The free order of heads -/

/-- Items of one event put in the order the n-th free key gives (R135, notes/assumptions/7.md). -/
def arrange {α : Type} (n : Nat) (head : α → HeadId) (l : List α) : List α :=
  l.insertionSort fun x y => Config.deliveryKey n (head x).val ≤ Config.deliveryKey n (head y).val

/-- `f` applied for each item of one event, one at a time. With two or more items their order is free (R135). -/
def State.eachInSomeOrder {α : Type} (s : State) (head : α → HeadId) (l : List α) (f : α → State → State) : State :=
  if l.length < 2 then l.foldl (fun x a => f a x) s
  else (arrange s.choices head l).foldl (fun x a => f a x) { s with choices := s.choices + 1 }

/-! ## Shapes of commands -/

/-- A command on head position `h`: the part has 128 of them (R21), so a higher one stops with a fault. -/
def onHead (h : Nat) (f : HeadId → State → State) (s : State) : Result :=
  if lt : h < 128 then .next (f ⟨h, lt⟩ s) else .fault (.noSuchHead h)

/-- A response placed in a port's buffer at a processing completion, its slot becoming IDLE (R195). -/
def State.finish (s : State) (p : Port) (r : Response) : State :=
  s.updPort p fun x => { x with slot := none, buffer := some r }

/-- A response that carries no data: every one whose status is not OK, and some that are (R203). -/
def bare (status : Status) : Response := ⟨status, []⟩

/-- The processing completion of request `r` on port `p` (R195): if the slot holds that request, an operand length
not among `lengths` is refused with BAD_VALUE, and otherwise the owning block `serve` forms the response and changes
the state. With another request in the slot, or none, there is no such completion and nothing happens
(notes/assumptions/4.md). -/
def State.complete (s : State) (p : Port) (r : Request) (lengths : List Nat)
    (serve : List Byte → State → Response × State) : State :=
  match (s.port p).slot with
  | none => s
  | some q =>
    if q.request = r then
      if q.operands.length ∈ lengths then ((serve q.operands s).2).finish p (serve q.operands s).1
      else s.finish p (bare .badValue)
    else s

end Sys2Proof.Machine
end

