-- ==== Sys2Proof/Machine/Planner.lean ====
section
/-! DEFINITION. The dose planner (chapter 4): forming the plan, the metered volume, the outcome decision and the lead
update. It holds no state. -/

namespace Sys2Proof.Machine

/-- A recipe angle converted to a local count (R75). -/
def windowCount (angle t : Nat) : Nat := angle * t / 3600

/-- The plan divisor D = Q × (10000 + t) (R77). -/
def planDivisor (q : Nat) (trim : Int) : Nat := q * (10000 + trim).toNat

/-- A volume in dose units as pulses, rounded half up (R78, R82). -/
def pulsesOf (volume d : Nat) : Nat := roundHalfUp (volume * 100000000) d

/-- The lead in whole pulses (R80). -/
def leadPulses (l16 : Nat) : Nat := roundHalfUp l16 16

/-- The close threshold: P_target − L, and at least 1 (R81). -/
def closeThreshold (pTarget lead : Nat) : Nat := if lead + 1 ≤ pTarget then pTarget - lead else 1

/-- The switch threshold: P_close − P_slow, and at least 0 (R83). -/
def switchThreshold (pClose pSlow : Nat) : Nat := if pSlow ≤ pClose then pClose - pSlow else 0

/-- The dose plan of a fill start from the recipe of the stack top, the head's record and T; none for PLAN_RANGE
(R72, R75, R77 to R83). -/
def formPlan (slot : Slot) (r : Recipe) (e : HeadRecord) (t : Nat) : Option Plan :=
  let d := planDivisor e.q e.trim
  let pTarget := pulsesOf r.vT d
  if 65535 < pTarget then none
  else
    let pClose := closeThreshold pTarget (leadPulses e.l16)
    some {
      slot := slot
      vT := r.vT
      vSlow := r.vSlow
      d := d
      epoch := e.epoch
      l16 := e.l16
      pTarget := pTarget
      lead := leadPulses e.l16
      pClose := pClose
      pSlow := pulsesOf r.vSlow d
      pSwitch := switchThreshold pClose (pulsesOf r.vSlow d)
      cPress := windowCount r.aPress t
      cFill := windowCount r.aFill t
      cClose := windowCount r.aClose t
      cSnift := windowCount r.aSnift t
      cRelease := windowCount r.aRelease t
      noFlow := r.noFlow
      settle := r.settle
      snift := r.snift
      tolerance := r.tolerance
      oMax := r.oMax
      leadGain := r.leadGain }

/-- The total pulses of a cycle (R85, R90). -/
def totalPulses (q : Sequencer) : Nat := q.fillCount.toNat + q.overrunCount.toNat

/-- The metered volume of `total` pulses, in dose units, rounded half up (R85, R90). -/
def meteredVolume (total d : Nat) : Nat := roundHalfUp (total * d) 100000000

/-- The outcome a settle end decides: OVERRUN, then OK within the tolerance, then OUT_OF_TOL (R86). -/
def decideOutcome (p : Plan) (q : Sequencer) : FillOutcome :=
  if p.oMax < q.overrunCount.toNat then .overrun
  else if ((meteredVolume (totalPulses q) p.d : Int) - p.vT).natAbs ≤ p.tolerance then .ok
  else .outOfTol

/-- The lead learned from overrun `o` under a plan with lead `l16` and lead gain `gain` (R88). -/
def learnedLead (l16 gain o : Nat) : Nat :=
  let new : Int := l16 + roundHalfAway ((o : Int) * 16 - l16) (2 ^ gain)
  if new < 0 then 0 else if 4080 < new then 4080 else new.toNat

/-- The outcome of a cycle is set once: a cause that finds it set leaves it as it is (R62). -/
def Sequencer.setOutcome (o : FillOutcome) (q : Sequencer) : Sequencer :=
  match q.outcome with
  | none => { q with outcome := some o }
  | some _ => q

/-- Whether a settle end writes a new lead (R87), after the outcome has been decided. -/
def learnsLead (q : Sequencer) : Bool :=
  (decide (q.outcome = some .ok) || decide (q.outcome = some .outOfTol)) && !q.resumed && !q.shortSettle

/-- The settle-end computation: the outcome if none is set, then the lead if learning is allowed (R84 to R89). Every
head in SETTLE holds a plan; without one there is nothing to compute from. -/
def settleEnd (h : Head) : Head :=
  match h.seq.plan with
  | none => h
  | some p =>
    let q := h.seq.setOutcome (decideOutcome p h.seq)
    if learnsLead q then
      { h with seq := q, entry := { h.entry with l16 := learnedLead p.l16 p.leadGain q.overrunCount.toNat } }
    else { h with seq := q }

end Sys2Proof.Machine
end

