-- ==== Sys2Proof/Machine/FillCycle.lean ====
section
/-! DEFINITION. The head sequencer (chapter 3) as functions of one head: what a boundary, a pulse, a timer, a motion
event, a switch event, a readback fault and HALT entry do to it. `now` and `cfg` are the time and the configuration
block. A state not named by a rule takes the event without effect (R38). What reaches beyond the head (records, the
stack, the neighbours, the mode) is in Machine/Cycle.lean. -/

namespace Sys2Proof.Machine

/-! ## Valve outputs (section 2.6) -/

/-- The output commands of each fill state (R30). -/
def outputsOf : FillState → Outputs Bool
  | .idle => ⟨false, false, false, false⟩
  | .armed => ⟨false, false, false, false⟩
  | .pressurizing => ⟨true, false, false, false⟩
  | .pressurized => ⟨true, false, false, false⟩
  | .fillFast => ⟨false, true, false, false⟩
  | .fillSlow => ⟨false, false, true, false⟩
  | .held => ⟨false, false, false, false⟩
  | .settle => ⟨false, false, false, false⟩
  | .snift => ⟨false, false, false, true⟩
  | .discharge => ⟨false, false, false, false⟩
  | .pass => ⟨false, false, false, false⟩

/-- A changed command starts its output's settle timer with the settle time in force; an unchanged one does not
(R30, R31). -/
def settleOnChange (now : Nat) (cfg : ConfigBlock) (old new : Bool) (t : Option Timer) : Option Timer :=
  if old = new then t else startTimer now cfg.valveSettle

/-- The four commands driven to `new`, each changed one starting its settle timer (R30, R31). -/
def Iface.drive (now : Nat) (cfg : ConfigBlock) (new : Outputs Bool) (i : Iface) : Iface :=
  { i with
    cmd := new
    settle :=
      { p := settleOnChange now cfg i.cmd.p new.p i.settle.p
        f := settleOnChange now cfg i.cmd.f new.f i.settle.f
        s := settleOnChange now cfg i.cmd.s new.s i.settle.s
        v := settleOnChange now cfg i.cmd.v new.v i.settle.v } }

/-- The head enters fill state `st`, and its commands follow at the same change (R30). -/
def Head.enter (now : Nat) (cfg : ConfigBlock) (st : FillState) (h : Head) : Head :=
  { h with seq := { h.seq with state := st }, iface := h.iface.drive now cfg (outputsOf st) }

/-- The head returns to IDLE with the values of R36 (R70). -/
def Head.toIdle (now : Nat) (cfg : ConfigBlock) (h : Head) : Head :=
  { h with seq := seqReset, iface := h.iface.drive now cfg (outputsOf .idle) }

/-! ## Groups of states -/

/-- ARMED through SNIFT: the states a DRAIN waits for (R173, R174). -/
def FillState.drains : FillState → Bool
  | .armed | .pressurizing | .pressurized | .fillFast | .fillSlow | .held | .settle | .snift => true
  | .idle | .discharge | .pass => false

/-- ARMED through DISCHARGE: the states that hold a plan (section 3.2, R118). -/
def FillState.holdsPlan : FillState → Bool
  | .armed | .pressurizing | .pressurized | .fillFast | .fillSlow | .held | .settle | .snift | .discharge => true
  | .idle | .pass => false

/-- PRESSURIZED through SETTLE: the states in which a switch release is a burst (R64). -/
def FillState.bursts : FillState → Bool
  | .pressurized | .fillFast | .fillSlow | .held | .settle => true
  | .idle | .armed | .pressurizing | .snift | .discharge | .pass => false

/-- PRESSURIZING through SETTLE: the states a readback fault ends (R65). -/
def FillState.valveEnds : FillState → Bool
  | .pressurizing | .pressurized | .fillFast | .fillSlow | .held | .settle => true
  | .idle | .armed | .snift | .discharge | .pass => false

/-! ## Infeed (section 3.3) -/

/-- An armed head: it holds the plan, its header comes from the recipe and the plan, and everything else is as R36
gives it (R42). -/
def Head.arm (now : Nat) (cfg : ConfigBlock) (p : Plan) (r : Recipe) (h : Head) : Head :=
  ({ h with
    seq := { seqReset with
      plan := some p
      header := some {
        slot := p.slot
        product := r.product
        vT := r.vT
        epoch := p.epoch
        release := p.cRelease
        resumeReject := r.resumeReject } } }).enter now cfg .armed

/-- A head that enters PASS at its infeed: NOT_FILLED with its reason, the header from the recipe, the head's epoch
and A_release (R43). -/
def Head.enterPass (now : Nat) (cfg : ConfigBlock) (why : NotFilledReason) (slot : Slot) (r : Recipe) (h : Head) :
    Head :=
  ({ h with
    seq := { seqReset with
      header := some {
        slot := slot
        product := r.product
        vT := r.vT
        epoch := h.entry.epoch
        release := windowCount r.aRelease cfg.t
        resumeReject := r.resumeReject }
      outcome := some .notFilled
      reason := some why } }).enter now cfg .pass

/-! ## Snift and settle entries -/

/-- Entry to SNIFT: the other timers and the fill clock stop, the snift timer starts with the plan's snift time, and
V opens (R59). -/
def Head.enterSnift (now : Nat) (cfg : ConfigBlock) (h : Head) : Head :=
  ({ h with
    seq := { h.seq with
      noFlowTimer := none
      holdTimer := none
      settleTimer := none
      fillClock := none
      sniftTimer := startTimer now (match h.seq.plan with | some p => p.snift | none => 0) } }).enter now cfg .snift

/-- Entry to SETTLE: the fill timers and the fill clock stop, both marks are cleared, and the settle timer starts; a
settle time of 0 sets the settle-done mark instead (R49). -/
def Head.enterSettle (now : Nat) (cfg : ConfigBlock) (h : Head) : Head :=
  let ms := match h.seq.plan with | some p => p.settle | none => 0
  ({ h with
    seq := { h.seq with
      noFlowTimer := none
      holdTimer := none
      fillClock := none
      settleDone := decide (ms = 0)
      sniftAngle := false
      settleTimer := if ms = 0 then none else startTimer now ms } }).enter now cfg .settle

/-- The close: the close record with the local angle and the fill duration, then SETTLE (R49). -/
def Head.takeClose (now : Nat) (cfg : ConfigBlock) (localAngle : Nat) (h : Head) : Head :=
  ({ h with
    seq := { h.seq with
      close := some {
        angle := localAngle
        duration := min (match h.seq.fillClock with | some t => elapsedMs now t | none => 0) 65535 } } }).enterSettle
    now cfg

/-- A cycle cut short by `o`: the outcome if none is set, then SNIFT (R47, R55, R62, R64 to R66). -/
def Head.endWith (now : Nat) (cfg : ConfigBlock) (o : FillOutcome) (h : Head) : Head :=
  ({ h with seq := h.seq.setOutcome o }).enterSnift now cfg

/-- The start of snift at settle end: the settle-end computation, then SNIFT (R58). -/
def Head.startSnift (now : Nat) (cfg : ConfigBlock) (h : Head) : Head := (settleEnd h).enterSnift now cfg

/-! ## Boundaries (sections 3.4 to 3.7) -/

/-- A switch-assert event (R46). -/
def Head.switchAssert (now : Nat) (cfg : ConfigBlock) (h : Head) : Head :=
  match h.seq.state with
  | .pressurizing => h.enter now cfg .pressurized
  | _ => h

/-- The A_press boundary: PRESSURIZING, and the switch-assert event of R29 when P opens on a pressure level already
ASSERTED (R45). -/
def Head.onPress (now : Nat) (cfg : ConfigBlock) (h : Head) : Head :=
  match h.seq.state with
  | .armed =>
    if h.iface.cmd.p = false ∧ h.iface.pressure = true then (h.enter now cfg .pressurizing).switchAssert now cfg
    else h.enter now cfg .pressurizing
  | _ => h

/-- The A_fill boundary (R47). -/
def Head.onFill (now : Nat) (cfg : ConfigBlock) (h : Head) : Head :=
  match h.seq.state with
  | .pressurized =>
    match h.seq.plan with
    | none => h
    | some p =>
      ({ h with
        seq := { h.seq with
          fillOpened := true
          fillClock := some now
          noFlowTimer := startTimer now p.noFlow } }).enter now cfg (if 0 < p.pSwitch then .fillFast else .fillSlow)
  | .pressurizing => h.endWith now cfg .noPressure
  | _ => h

/-- The A_close boundary (R51). -/
def Head.onClose (now : Nat) (cfg : ConfigBlock) (h : Head) : Head :=
  match h.seq.state with
  | .fillFast | .fillSlow => ({ h with seq := h.seq.setOutcome .short }).enterSettle now cfg
  | _ => h

/-- The A_snift boundary: the snift-angle mark, and the start of snift if the settle is done (R58). -/
def Head.onSnift (now : Nat) (cfg : ConfigBlock) (h : Head) : Head :=
  match h.seq.state with
  | .settle =>
    if h.seq.settleDone then ({ h with seq := { h.seq with sniftAngle := true } }).startSnift now cfg
    else { h with seq := { h.seq with sniftAngle := true } }
  | _ => h

/-! ## Pulses (sections 3.5 to 3.7) -/

/-- A fill pulse in FILL_FAST or FILL_SLOW: the count, the no-flow timer, then the two thresholds by equality (R48). -/
def Head.fillPulse (now : Nat) (cfg : ConfigBlock) (localAngle : Nat) (h : Head) : Head :=
  match h.seq.plan with
  | none => { h with seq := { h.seq with fillCount := satInc h.seq.fillCount } }
  | some p =>
    let h' := { h with
      seq := { h.seq with fillCount := satInc h.seq.fillCount, noFlowTimer := startTimer now p.noFlow } }
    if h'.seq.fillCount.toNat = p.pClose then h'.takeClose now cfg localAngle
    else if h'.seq.fillCount.toNat = p.pSwitch ∧ h.seq.state = .fillFast then h'.enter now cfg .fillSlow
    else h'

/-- A fill pulse in HELD: the count, then the close by equality (R53). -/
def Head.heldPulse (now : Nat) (cfg : ConfigBlock) (localAngle : Nat) (h : Head) : Head :=
  let h' := { h with seq := { h.seq with fillCount := satInc h.seq.fillCount } }
  match h.seq.plan with
  | none => h'
  | some p => if h'.seq.fillCount.toNat = p.pClose then h'.takeClose now cfg localAngle else h'

/-- An accepted pulse, routed by the fill state (R24, R48, R53, R57). -/
def Head.acceptedPulse (now : Nat) (cfg : ConfigBlock) (localAngle : Nat) (h : Head) : Head :=
  match h.seq.state with
  | .fillFast | .fillSlow => h.fillPulse now cfg localAngle
  | .held => h.heldPulse now cfg localAngle
  | .settle => { h with seq := { h.seq with overrunCount := satInc h.seq.overrunCount } }
  | .idle | .armed | .pressurizing | .pressurized | .snift | .discharge | .pass =>
    { h with iface := { h.iface with drips := satInc h.iface.drips } }

/-! ## Timers (sections 3.5 to 3.7) -/

/-- The no-flow timer expires: NO_FLOW, and SETTLE (R50). -/
def Head.onNoFlow (now : Nat) (cfg : ConfigBlock) (h : Head) : Head :=
  match h.seq.state with
  | .fillFast | .fillSlow =>
    if timerDue now h.seq.noFlowTimer then ({ h with seq := h.seq.setOutcome .noFlow }).enterSettle now cfg else h
  | _ => h

/-- The hold timer expires: ABORTED, and SNIFT (R55). -/
def Head.onHold (now : Nat) (cfg : ConfigBlock) (h : Head) : Head :=
  match h.seq.state with
  | .held => if timerDue now h.seq.holdTimer then h.endWith now cfg .aborted else h
  | _ => h

/-- The settle timer expires: the settle-done mark, and the start of snift if the snift angle has been reached (R58). -/
def Head.onSettled (now : Nat) (cfg : ConfigBlock) (h : Head) : Head :=
  match h.seq.state with
  | .settle =>
    if timerDue now h.seq.settleTimer then
      let h' := { h with seq := { h.seq with settleTimer := none, settleDone := true } }
      if h.seq.sniftAngle then h'.startSnift now cfg else h'
    else h
  | _ => h

/-! ## Motion (section 3.6) -/

/-- A motion-leave event (R52). -/
def Head.motionLeave (now : Nat) (cfg : ConfigBlock) (h : Head) : Head :=
  match h.seq.state with
  | .fillFast | .fillSlow =>
    ({ h with
      seq := { h.seq with
        noFlowTimer := none
        holdTimer := startTimer now (cfg.holdLimit * 1000) } }).enter now cfg .held
  | _ => h

/-- A first-advance event (R54). -/
def Head.firstAdvance (now : Nat) (cfg : ConfigBlock) (h : Head) : Head :=
  match h.seq.state with
  | .held =>
    ({ h with
      seq := { h.seq with
        resumed := true
        holdTimer := none
        noFlowTimer := startTimer now (match h.seq.plan with | some p => p.noFlow | none => 0) } }).enter now cfg
      .fillSlow
  | _ => h

/-! ## HALT entry (section 3.9) -/

/-- HALT entry at one sequencer (R66). -/
def Head.haltEntry (now : Nat) (cfg : ConfigBlock) (h : Head) : Head :=
  match h.seq.state with
  | .pressurizing | .pressurized | .fillFast | .fillSlow | .held => h.endWith now cfg .aborted
  | .settle => ({ h with seq := { h.seq with shortSettle := true } }).startSnift now cfg
  | .armed =>
    ({ h with
      seq := { h.seq with plan := none, outcome := some .notFilled, reason := some .halt } }).enter now cfg .pass
  | .idle | .snift | .discharge | .pass => h

/-! ## Records (section 3.10) -/

/-- What the sequencer hands over at record creation, from its header and outcome (R68, R69). A head in DISCHARGE,
PASS, SNIFT or SETTLE always holds both (R42, R43, R62); without them there is no container to record. -/
def Head.draft (id : HeadId) (revolution : U32) (cleared : Bool) (h : Head) : Option RecordDraft :=
  match h.seq.header, h.seq.outcome with
  | some hd, some o =>
    some {
      head := id
      slot := hd.slot
      product := hd.product
      vT := hd.vT
      epoch := hd.epoch
      outcome := o
      flags := recordFlags h.seq h.entry o hd.resumeReject cleared
      reason := if o = .notFilled then h.seq.reason else none
      metered :=
        match h.seq.plan with
        | some p =>
          if h.seq.fillOpened then
            some {
              total := totalPulses h.seq
              vMeter := meteredVolume (totalPulses h.seq) p.d
              pClose := p.pClose }
          else none
        | none => none
      close := h.seq.close
      revolution := revolution }
  | _, _ => none

/-! ## Boundary sets (R18) -/

/-- The boundaries of a head at local angle `a`: local 0 in every state, the five windows of the plan from ARMED to
DISCHARGE, the header's release count in PASS (R18). -/
def boundariesAt (q : Sequencer) (a : Nat) : List Boundary :=
  (if a = 0 then [.infeed] else []) ++
  (if q.state.holdsPlan then
    match q.plan with
    | some p =>
      (if a = p.cPress then [.press] else []) ++ (if a = p.cFill then [.fill] else []) ++
      (if a = p.cClose then [.close] else []) ++ (if a = p.cSnift then [.snift] else []) ++
      (if a = p.cRelease then [.release] else [])
    | none => []
  else if q.state = .pass then
    match q.header with
    | some hd => if a = hd.release then [.release] else []
    | none => []
  else [])

end Sys2Proof.Machine
end

