-- ==== Sys2Proof/Machine/HeadTable.lean ====
section
/-! DEFINITION. The head table (chapter 5): history, counters, fault count and auto-block at record creation, and the
acts of a tuning write on every record. -/

namespace Sys2Proof.Machine

/-- The counter of an outcome incremented (R101). -/
def Stats.countOutcome (o : FillOutcome) (x : Stats) : Stats :=
  match o with
  | .ok => { x with ok := satInc x.ok }
  | .outOfTol => { x with outOfTol := satInc x.outOfTol }
  | .short => { x with short := satInc x.short }
  | .overrun => { x with overrun := satInc x.overrun }
  | .noFlow => { x with noFlow := satInc x.noFlow }
  | .noPressure => { x with noPressure := satInc x.noPressure }
  | .burst => { x with burst := satInc x.burst }
  | .valve => { x with valve := satInc x.valve }
  | .aborted => { x with aborted := satInc x.aborted }
  | .notFilled => { x with notFilled := satInc x.notFilled }

/-- The consecutive-fault count after a record (R97). -/
def faultsAfter (o : FillOutcome) (n : Nat) : Nat :=
  match o with
  | .short | .overrun | .noFlow | .noPressure | .burst | .valve => min (n + 1) 8
  | .ok | .outOfTol => 0
  | .aborted | .notFilled => n

/-- The service state after a valve auto-block (R99). -/
def valveBlock : Service → Service
  | .inService => .autoBlocked .valve
  | .autoBlocked _ => .autoBlocked .valve
  | .blocked => .blocked

/-- The service state after the threshold check of R98. -/
def thresholdBlock (threshold faults : Nat) (x : Service) : Service :=
  match x with
  | .inService => if threshold ≤ faults then .autoBlocked .faults else .inService
  | .blocked => .blocked
  | .autoBlocked r => .autoBlocked r

/-- The service state after a record: a VALVE outcome auto-blocks with reason VALVE, any other is checked against the
threshold (R98, R99). -/
def serviceAfter (o : FillOutcome) (threshold faults : Nat) (x : Service) : Service :=
  if o = .valve then valveBlock x else thresholdBlock threshold faults x

/-- A head table record after a record creation with outcome `o`: fault count, service state, history and counters
(R97 to R101), and the suspect count one lower (R68, R102). -/
def HeadRecord.recorded (o : FillOutcome) (threshold : Nat) (e : HeadRecord) : HeadRecord :=
  { e with
    faults := faultsAfter o e.faults
    service := serviceAfter o threshold (faultsAfter o e.faults) e.service
    history := (o :: e.history).take 8
    suspect := e.suspect - 1
    stats := { e.stats.countOutcome o with recordsMade := satInc e.stats.recordsMade } }

/-- HEAD_BLOCKED is raised at each auto-block that changes the service state or its reason (R111). -/
def State.raiseIfBlocked (before after : Service) (s : State) : State :=
  if before = after then s else s.raise .headBlocked

/-- The sequencer asks for a valve auto-block at once (R65, R99). -/
def State.valveBlockNow (h : HeadId) (s : State) : State :=
  (s.updHead h fun x => { x with entry := { x.entry with service := valveBlock x.entry.service } }).raiseIfBlocked
    (s.head h).entry.service (valveBlock (s.head h).entry.service)

/-- A burst raises a neighbour's suspect count to the suspect turns (R63). -/
def HeadRecord.markSuspect (turns : Nat) (e : HeadRecord) : HeadRecord := { e with suspect := max e.suspect turns }

/-- A head table record under a new tuning block (R108 to R110): a lowered trim limit clamps the trim and moves the
epoch where it changed it, a lowered block threshold auto-blocks a head in service at or above it. -/
def HeadRecord.tuned (old new : TuningBlock) (e : HeadRecord) : HeadRecord :=
  let e' :=
    if new.trimLimit < old.trimLimit ∧ new.trimLimit < e.trim.natAbs then
      { e with trim := clampTrim new.trimLimit e.trim, epoch := e.epoch + 1 }
    else e
  if new.blockThreshold < old.blockThreshold then
    { e' with service := thresholdBlock new.blockThreshold e'.faults e'.service }
  else e'

/-- HEAD_STATS_CLEAR's effect on a record (R112). -/
def HeadRecord.statsCleared (e : HeadRecord) : HeadRecord :=
  { e with stats := statsZero, history := [], dripWarning := false, lastDeviation := none }

/-- HEAD_RELEASE's effect on a record (R96). -/
def HeadRecord.released (e : HeadRecord) : HeadRecord :=
  match e.service with
  | .inService => e
  | .blocked => { e with service := .inService, faults := 0 }
  | .autoBlocked _ => { e with service := .inService, faults := 0 }

/-- A record at RESTART (R93). -/
def HeadRecord.restarted (e : HeadRecord) : HeadRecord :=
  { entryPowerOn with
    service := match e.service with | .autoBlocked _ => .inService | .blocked => .blocked | .inService => .inService
    q := e.q
    trim := e.trim
    frozen := e.frozen
    epoch := e.epoch
    l16 := e.l16 }

end Sys2Proof.Machine
end

