-- ==== Sys2Proof/Machine/Trace.lean ====
section
/-! DEFINITION. The trace queue (chapter 7): seq and serial, storing, the four removals, the cursors. -/

namespace Sys2Proof.Machine

/-- The most records the queue holds (R137). -/
def queueCapacity : Nat := 256

/-- The seq counter, which equals the created counter (section 7.1). -/
def TraceQueue.seqCounter (q : TraceQueue) : U32 := q.created

/-- The last issued serial: the predecessor of the next serial, on the range 1 to 2³² − 1 (R136). -/
def TraceQueue.lastIssued (q : TraceQueue) : U32 := if q.nextSerial = 1 then 4294967295 else q.nextSerial - 1

/-- The serial after `x`: the serial 0 is never given (R136). -/
def nextSerialAfter (x : U32) : U32 := if x = 4294967295 then 1 else x + 1

/-- The distance of a cursor behind the newest seq (R147). -/
def cursorDistance (seqCounter cursor : U32) : Nat := (seqCounter + 1 - cursor).toNat

/-- A record with seq `r` lies at or after the cursor (R147). -/
def atOrAfter (seqCounter cursor r : U32) : Bool :=
  decide ((seqCounter - r).toNat < cursorDistance seqCounter cursor)

/-- A cursor checked against the held list after a removal (R147). -/
def bringUpCursor (seqCounter : U32) (held : List TraceRecord) (cursor : U32) : U32 :=
  match held with
  | [] => if 0 < cursorDistance seqCounter cursor then seqCounter + 1 else cursor
  | oldest :: _ =>
    if (seqCounter - oldest.seq).toNat + 1 < cursorDistance seqCounter cursor then oldest.seq else cursor

/-- Both cursors checked after a removal (R147). -/
def TraceQueue.bringUp (q : TraceQueue) : TraceQueue :=
  { q with
    lineCursor := bringUpCursor q.seqCounter q.held q.lineCursor
    inspCursor := bringUpCursor q.seqCounter q.held q.inspCursor }

/-- A port's cursor. -/
def TraceQueue.cursor (q : TraceQueue) : Port → U32
  | .line => q.lineCursor
  | .inspection => q.inspCursor

/-- The queue with a port's cursor set. -/
def TraceQueue.setCursor (q : TraceQueue) (p : Port) (c : U32) : TraceQueue :=
  match p with
  | .line => { q with lineCursor := c }
  | .inspection => { q with inspCursor := c }

/-- A record has a serial unless its outcome is BURST or it carries CLEARED (R136). -/
def RecordDraft.hasSerial (d : RecordDraft) : Bool := !(decide (d.outcome = .burst) || d.flags.cleared)

/-- The record as the queue numbers it: the new seq, and the next serial if it has one (R135, R136). -/
def TraceQueue.number (q : TraceQueue) (d : RecordDraft) : TraceRecord :=
  ⟨q.seqCounter + 1, if d.hasSerial then some q.nextSerial else none, d⟩

/-- The counters a numbered record moves, whether or not it is then stored (R135, R136). -/
def TraceQueue.counted (q : TraceQueue) (d : RecordDraft) : TraceQueue :=
  { q with
    created := q.created + 1
    nextSerial := if d.hasSerial then nextSerialAfter q.nextSerial else q.nextSerial }

/-- A record handed to the queue: numbered, then stored, stored after an eviction (ROLL) or lost (HOLD)
(R135 to R139). -/
def TraceQueue.accept (mode : TraceMode) (d : RecordDraft) (q : TraceQueue) : TraceQueue :=
  let r := q.number d
  let q' := q.counted d
  if q.held.length < queueCapacity then { q' with held := q.held ++ [r] }
  else
    match mode with
    | .roll => ({ q' with held := q.held.drop 1 ++ [r], evicted := q.evicted + 1 }).bringUp
    | .hold => { q' with lost := q.lost + 1 }

/-- Whether a record handed to the queue is stored (R137 to R139). -/
def TraceQueue.stores (mode : TraceMode) (q : TraceQueue) : Bool :=
  decide (q.held.length < queueCapacity) || decide (mode = .roll)

/-- A record handed to the queue, with the port events of its storage decision: TRACE_LOSS for an eviction or a loss,
REJECT_STORED for a stored record with REJECT (R140), TRACE_LEVEL for a store at or above the threshold (R141). -/
def State.enqueue (d : RecordDraft) (s : State) : State :=
  let q' := s.queue.accept s.cfg.traceMode d
  let stored := s.queue.stores s.cfg.traceMode
  let s1 := { s with queue := q' }
  let s2 := if s.queue.held.length < queueCapacity then s1 else s1.raise .traceLoss
  let s3 := if stored && d.flags.reject then s2.raise .rejectStored else s2
  if stored && decide (s.tuning.traceThreshold ≤ q'.held.length) then s3.raise .traceLevel else s3

/-- A held record past the horizon at revolution `c` (R142). -/
def expiredAt (c : U32) (horizon : Nat) (r : TraceRecord) : Bool := decide (horizon ≤ (c - r.body.revolution).toNat)

/-- Expiry at a revolution event, with `c` the revolution counter after its increment (R142). The cursors are
checked after a removal (R147); with nothing removed there is none (notes/assumptions/13.md). -/
def TraceQueue.expire (c : U32) (horizon : Nat) (q : TraceQueue) : TraceQueue :=
  let kept := q.held.filter fun r => !expiredAt c horizon r
  let gone := q.held.length - kept.length
  if gone = 0 then q
  else ({ q with held := kept, expired := q.expired + BitVec.ofNat 32 gone }).bringUp

/-- The held record that carries a serial (R143). -/
def TraceQueue.find (q : TraceQueue) (serial : U32) : Option TraceRecord :=
  q.held.find? fun r => decide (r.serial = some serial)

/-- The held record that carries a serial retired by a matched report (R143). -/
def TraceQueue.retire (q : TraceQueue) (serial : U32) : TraceQueue :=
  ({ q with
    held := q.held.eraseP fun r => decide (r.serial = some serial)
    matched := q.matched + 1 }).bringUp

/-- The serials of the held records that carry one, oldest first. -/
def TraceQueue.serials (q : TraceQueue) : List U32 := q.held.filterMap TraceRecord.serial

/-- TRACE_CLEAR's effect on the queue (R144). -/
def TraceQueue.clear (q : TraceQueue) : TraceQueue :=
  { q with
    held := []
    cleared := q.cleared + BitVec.ofNat 32 q.held.length
    lineCursor := q.seqCounter + 1
    inspCursor := q.seqCounter + 1 }

/-- The oldest held record at or after a port's cursor (R148). -/
def TraceQueue.nextFor (q : TraceQueue) (p : Port) : Option TraceRecord :=
  q.held.find? fun r => atOrAfter q.seqCounter (q.cursor p) r.seq

/-- The seq of the oldest held record, or the one after the newest when none is held (R149). -/
def TraceQueue.oldestSeq (q : TraceQueue) : U32 :=
  match q.held with
  | [] => q.seqCounter + 1
  | r :: _ => r.seq

end Sys2Proof.Machine
end

