-- ==== Sys2Proof/Machine/Cycle.lean ====
section
/-! DEFINITION. The parts of the fill cycle that reach beyond one head: mode changes and HALT entry (chapter 9), the
recipe stack's top (chapter 6), infeed, record creation, release, burst and readback faults, and the delivery of
boundary events (chapters 1 to 3). -/

namespace Sys2Proof.Machine

/-! ## Mode changes (chapter 9) -/

/-- A change of the mode, which raises MODE_CHANGE on both ports (R178). -/
def State.setMode (m : Mode) (s : State) : State := ({ s with mode := m }).raise .modeChange

/-- HALT entry: from any other mode the mode becomes HALT, every sequencer below N receives HALT entry, and
MODE_CHANGE is raised; in HALT nothing changes (R175). -/
def State.enterHalt (s : State) : State :=
  if s.mode = .halt then s else (s.mapBelow (Head.haltEntry s.now s.cfg)).setMode .halt

/-- DRAIN completes when no head is left in ARMED through SNIFT (R174). -/
def State.drainCheck (s : State) : State :=
  if s.mode = .drain ∧ s.anyHead (fun h => h.seq.state.drains) = false then s.setMode .setup else s

/-! ## The stack top (chapter 6) -/

/-- The slot that the top entry names, with its recipe. By R124 there is always one. -/
def State.topRecipe (s : State) : Option (Slot × Recipe) :=
  match s.stack.entries with
  | [] => none
  | e :: _ => (s.recipes[e.slot.val]).map fun r => (e.slot, r)

/-- The entries after a fill start has taken the top (R129). -/
def takeEntries : List StackEntry → List StackEntry
  | [] => []
  | e :: rest =>
    match e.count with
    | none => e :: rest
    | some n =>
      if 1 < n then { e with count := some (n - 1) } :: rest
      else if rest = [] then [{ e with count := none }]
      else rest

/-- Whether taking the top pops it: count 1 at depth 2 or more (R129). -/
def autoPops : List StackEntry → Bool
  | [] => false
  | e :: rest => match e.count with | none => false | some n => decide (n ≤ 1) && !rest.isEmpty

/-- A fill start takes the top entry; an auto-pop raises STACK_NOTICE (R129, R133). -/
def State.takeTop (s : State) : State :=
  let s' := { s with stack := { s.stack with entries := takeEntries s.stack.entries } }
  if autoPops s.stack.entries then s'.raise .stackNotice else s'

/-! ## Infeed (sections 2.3, 2.4 and 3.3) -/

/-- The drip check at a local-0 event (R26). -/
def State.dripCheck (h : HeadId) (s : State) : State :=
  let c := (s.head h).iface.drips
  if s.tuning.dripLimit < c.toNat then
    (s.updHead h fun x =>
      { x with
        iface := { x.iface with drips := 0 }
        entry := { x.entry with
          dripWarning := true
          stats := { x.entry.stats with dripTotal := satAdd x.entry.stats.dripTotal c.toNat } } }).raise .headWarning
  else s.updHead h fun x => { x with iface := { x.iface with drips := 0 } }

/-- A container passes unfilled: PASS with a header from the stack top, which is not taken (R43, R130). -/
def State.passEntry (why : NotFilledReason) (h : HeadId) (s : State) : State :=
  match s.topRecipe with
  | none => s
  | some (slot, r) => s.updHead h (Head.enterPass s.now s.cfg why slot r)

/-- A fill start (R42): the top is taken, the fills-started counter increments, and the plan is formed, or the head
enters PASS with PLAN_RANGE. -/
def State.fillStart (h : HeadId) (s : State) : State :=
  match s.topRecipe with
  | none => s
  | some (slot, r) =>
    let taken := s.takeTop.updHead h fun x =>
      { x with entry := { x.entry with
          stats := { x.entry.stats with fillsStarted := satInc x.entry.stats.fillsStarted } } }
    match formPlan slot r (s.head h).entry s.cfg.t with
    | some p => taken.updHead h (Head.arm s.now s.cfg p r)
    | none => taken.updHead h (Head.enterPass s.now s.cfg .planRange slot r)

/-- What an IDLE head does at its infeed (R40, R41). -/
def State.infeedDecision (h : HeadId) (s : State) : State :=
  if s.infeed = false then
    s.updHead h fun x =>
      { x with entry := { x.entry with
          stats := { x.entry.stats with emptyPockets := satInc x.entry.stats.emptyPockets } } }
  else
    match (s.head h).entry.service with
    | .blocked => s.passEntry .blocked h
    | .autoBlocked _ => s.passEntry .blocked h
    | .inService =>
      match s.mode with
      | .production => s.fillStart h
      | .drain => s.passEntry .drain h
      | .halt => s.passEntry .halt h
      | .setup => s.passEntry .setup h

/-- The local-0 event: the drip check, then the infeed reading, which an IDLE head decides on and any other state
leaves (R26, R27, R40, R41, R44). -/
def State.onInfeed (h : HeadId) (s : State) : State :=
  let s' := s.dripCheck h
  if (s'.head h).seq.state = .idle then s'.infeedDecision h else s'

/-! ## Record creation (section 3.10) -/

/-- A finished record handed to the trace queue and to the head table, and the head back to IDLE (R68 to R70). -/
def State.makeRecord (cleared : Bool) (h : HeadId) (s : State) : State :=
  match (s.head h).draft h s.tracker.revolutions cleared with
  | none => s.updHead h (Head.toIdle s.now s.cfg)
  | some d =>
    let before := (s.head h).entry
    let after := before.recorded d.outcome s.tuning.blockThreshold
    (((s.enqueue d).updHead h fun x => { x with entry := after }).raiseIfBlocked before.service after.service).updHead h
      (Head.toIdle s.now s.cfg)

/-- The release boundary (R61). -/
def State.onRelease (h : HeadId) (s : State) : State :=
  match (s.head h).seq.state with
  | .discharge | .pass => s.makeRecord false h
  | .snift =>
    ((s.updHead h fun x => { x with seq := { x.seq with sniftShort := true, sniftTimer := none } }).makeRecord false
      h).drainCheck
  | .settle =>
    ((s.updHead h fun x =>
      settleEnd { x with seq := { x.seq with sniftAngle := true, sniftShort := true, shortSettle := true } }).makeRecord
      false h).drainCheck
  | _ => s

/-! ## Boundaries (section 1.10) -/

/-- The offset of a head (R17). -/
def headOffset (cfg : ConfigBlock) (h : HeadId) : Nat := h.val * cfg.t / cfg.n

/-- The local angle of a head (R17). -/
def State.localAngle (s : State) (h : HeadId) : Nat :=
  (s.tracker.angle + s.cfg.t - headOffset s.cfg h) % s.cfg.t

/-- One boundary event taken by a head (R44, R45, R47, R51, R58, R61). -/
def State.onBoundary (h : HeadId) (b : Boundary) (s : State) : State :=
  match b with
  | .infeed => s.onInfeed h
  | .press => s.updHead h (Head.onPress s.now s.cfg)
  | .fill => s.updHead h (Head.onFill s.now s.cfg)
  | .close => s.updHead h (Head.onClose s.now s.cfg)
  | .snift => s.updHead h (Head.onSnift s.now s.cfg)
  | .release => s.onRelease h

/-- The boundaries that the heads below N have reached at the present angle (R5, R18). -/
def State.reached (s : State) : List (HeadId × Boundary) :=
  (List.finRange 128).flatMap fun h =>
    if h.val < s.cfg.n then (boundariesAt (s.head h).seq (s.localAngle h)).map fun b => (h, b) else []

/-- The boundary events of one advance. The sets are those from before the advance (R18); the order of the heads is
free (R135, notes/assumptions/7.md). -/
def State.deliverBoundaries (s : State) : State :=
  s.eachInSomeOrder Prod.fst s.reached fun hb x => x.onBoundary hb.1 hb.2

/-! ## Burst and readback fault (sections 2.7 and 3.8) -/

/-- The neighbours of a head among N (R63). -/
def neighbours (n : Nat) (h : HeadId) : List HeadId :=
  [Fin.ofNat 128 ((h.val + n - 1) % n), Fin.ofNat 128 ((h.val + 1) % n)]

/-- A burst detection marks the neighbours (R63). -/
def State.markNeighbours (h : HeadId) (s : State) : State :=
  (neighbours s.cfg.n h).foldl
    (fun x j => x.updHead j fun y => { y with entry := y.entry.markSuspect s.tuning.suspectTurns }) s

/-- A switch-release event (R64). -/
def State.switchRelease (h : HeadId) (s : State) : State :=
  if (s.head h).seq.state.bursts then (s.markNeighbours h).updHead h (Head.endWith s.now s.cfg .burst) else s

/-- A readback-fault event, whichever output it names (R33, R65). -/
def State.readbackFault (h : HeadId) (s : State) : State :=
  if (s.head h).seq.state.valveEnds then
    let s' := s.updHead h (Head.endWith s.now s.cfg .valve)
    if (s.head h).seq.outcome = none then s' else s'.valveBlockNow h
  else s.valveBlockNow h

end Sys2Proof.Machine
end

