-- ==== Sys2Proof/Machine/Layouts.lean ====
section
/-! DEFINITION. The codes and byte layouts of chapter 11: what each response carries. -/

namespace Sys2Proof.Machine

/-! ## Codes (R204) -/

/-- The status codes. -/
def Status.code : Status → Nat
  | .ok => 0x01
  | .notReady => 0x02
  | .badCheck => 0x03
  | .badFrame => 0x04
  | .unknownRequest => 0x05
  | .notPermitted => 0x06
  | .wrongMode => 0x07
  | .badValue => 0x08
  | .inUse => 0x09
  | .notFound => 0x0A
  | .tooLate => 0x0B
  | .notYet => 0x0C
  | .floor => 0x0D
  | .headsBusy => 0x0E
  | .empty => 0x0F

/-- The mode's value. -/
def Mode.code : Mode → Nat
  | .setup => 0
  | .production => 1
  | .drain => 2
  | .halt => 3

/-- The reference state's value. -/
def RefState.code : RefState → Nat
  | .unreferenced => 0
  | .tracking => 1
  | .fault => 2

/-- The motion state's value. -/
def Motion.code : Motion → Nat
  | .stopped => 0
  | .running => 1
  | .reversing => 2

/-- The fill state's value. -/
def FillState.code : FillState → Nat
  | .idle => 0
  | .armed => 1
  | .pressurizing => 2
  | .pressurized => 3
  | .fillFast => 4
  | .fillSlow => 5
  | .held => 6
  | .settle => 7
  | .snift => 8
  | .discharge => 9
  | .pass => 10

/-- The service state's value. -/
def Service.code : Service → Nat
  | .inService => 0
  | .blocked => 1
  | .autoBlocked _ => 2

/-- The auto-block reason's value, 0 when it is absent. -/
def Service.reasonCode : Service → Nat
  | .inService => 0
  | .blocked => 0
  | .autoBlocked .faults => 1
  | .autoBlocked .valve => 2

/-- The outcome's value. -/
def FillOutcome.code : FillOutcome → Nat
  | .ok => 1
  | .outOfTol => 2
  | .short => 3
  | .overrun => 4
  | .noFlow => 5
  | .noPressure => 6
  | .burst => 7
  | .valve => 8
  | .aborted => 9
  | .notFilled => 10

/-- The not-filled reason's value. -/
def NotFilledReason.code : NotFilledReason → Nat
  | .blocked => 1
  | .planRange => 2
  | .drain => 3
  | .halt => 4
  | .setup => 5

/-- The classification's value. -/
def Classification.code : Classification → Nat
  | .unmeasured => 1
  | .noLearn => 2
  | .stale => 3
  | .frozen => 4
  | .deadBand => 5
  | .gross => 6
  | .applied => 7

/-- The trace mode's value. -/
def TraceMode.code : TraceMode → Nat
  | .roll => 0
  | .hold => 1

/-- The ATTN mode's value. -/
def AttnMode.code : AttnMode → Nat
  | .level => 0
  | .pulse => 1

/-- A flag byte: clear 0, set 1. -/
def flagCode (b : Bool) : Nat := if b then 1 else 0

/-! ## Blocks -/

/-- The configuration block (13 bytes). -/
def configBytes (c : ConfigBlock) : List Byte :=
  leBytes 1 c.n ++ leBytes 2 c.t ++ leBytes 1 c.tolerance ++ leBytes 2 c.stopTimeout ++ leBytes 1 c.depth ++
  leBytes 1 c.traceMode.code ++ leBytes 1 c.horizon ++ leBytes 1 c.spacing ++ leBytes 1 c.valveSettle ++
  leBytes 2 c.holdLimit

/-- The tuning block (7 bytes). -/
def tuningBytes (t : TuningBlock) : List Byte :=
  leBytes 2 t.trimLimit ++ leBytes 1 t.blockThreshold ++ leBytes 1 t.suspectTurns ++ leBytes 1 t.dripLimit ++
  leBytes 2 t.traceThreshold

/-- The recipe record (31 bytes). -/
def recipeBytes (r : Recipe) : List Byte :=
  leBytes 2 r.product.toNat ++ leBytes 2 r.vT ++ leBytes 2 r.vSlow ++ leBytes 2 r.tolerance ++ leBytes 1 r.deadBand ++
  leBytes 2 r.grossLimit ++ leBytes 1 r.trimGain ++ leBytes 1 r.leadGain ++ leBytes 1 r.oMax ++ leBytes 2 r.noFlow ++
  leBytes 2 r.settle ++ leBytes 2 r.snift ++ leBytes 2 r.aPress ++ leBytes 2 r.aFill ++ leBytes 2 r.aClose ++
  leBytes 2 r.aSnift ++ leBytes 2 r.aRelease ++ leBytes 1 (flagCode r.resumeReject)

/-- One stack entry (3 bytes): the slot with bit 7 for a count present, then the count or 0. -/
def entryBytes (e : StackEntry) : List Byte :=
  match e.count with
  | none => leBytes 1 e.slot.val ++ leBytes 2 0
  | some n => leBytes 1 (e.slot.val + 128) ++ leBytes 2 n

/-- The stack block (4 + 3 × depth bytes) (R128). -/
def stackBytes (s : State) : List Byte :=
  leBytes 1 s.cfg.depth ++ leBytes 1 s.stack.entries.length ++ leBytes 2 s.stack.spills.toNat ++
  s.stack.entries.flatMap entryBytes

/-- The STATUS block (12 bytes) (R185). -/
def statusBytes (s : State) : List Byte :=
  leBytes 1 s.mode.code ++ leBytes 1 s.tracker.ref.code ++ leBytes 1 s.tracker.motion.code ++
  leBytes 4 s.tracker.revolutions.toNat ++ leBytes 4 s.tracker.speed ++ leBytes 1 (flagCode s.estop)

/-- The events block: 11 bytes on the line port, 13 with the report-error counter on the inspection port (R200). -/
def eventsBytes (p : Port) (s : State) : List Byte :=
  let x := s.port p
  leBytes 2 x.events.toNat ++ leBytes 2 x.mask.toNat ++ leBytes 1 x.attnMode.code ++ leBytes 2 x.checkErrors.toNat ++
  leBytes 2 x.frameErrors.toNat ++ leBytes 2 x.collisions.toNat ++
  (match p with | .line => [] | .inspection => leBytes 2 s.reportErrors.toNat)

/-- The flag byte of a trace record. -/
def recordFlagCode (f : RecordFlags) : Nat :=
  flagCode f.suspect + 2 * flagCode f.resumed + 4 * flagCode f.shortSettle + 8 * flagCode f.sniftShort +
  16 * flagCode f.cleared + 32 * flagCode f.reject

/-- A trace record (38 bytes); an absent field's bytes are 0 and its presence bit is clear (R203). -/
def recordBytes (r : TraceRecord) : List Byte :=
  let d := r.body
  leBytes 1 (flagCode r.serial.isSome + 2 * flagCode d.reason.isSome + 4 * flagCode d.metered.isSome +
    8 * flagCode d.close.isSome) ++
  leBytes 4 r.seq.toNat ++ leBytes 4 (match r.serial with | some x => x.toNat | none => 0) ++ leBytes 1 d.head.val ++
  leBytes 1 d.slot.val ++ leBytes 2 d.product.toNat ++ leBytes 2 d.vT ++ leBytes 2 d.epoch.toNat ++
  leBytes 1 d.outcome.code ++ leBytes 1 (recordFlagCode d.flags) ++
  leBytes 1 (match d.reason with | some x => x.code | none => 0) ++
  (match d.metered with
    | some m => leBytes 4 m.total ++ leBytes 4 m.vMeter ++ leBytes 2 m.pClose
    | none => leBytes 10 0) ++
  (match d.close with
    | some c => leBytes 2 c.angle ++ leBytes 2 c.duration
    | none => leBytes 4 0) ++
  leBytes 4 d.revolution.toNat

/-- The TRACE_STATUS block (42 bytes) (R151). -/
def traceStatusBytes (s : State) : List Byte :=
  let q := s.queue
  leBytes 2 q.held.length ++ leBytes 1 (flagCode q.serials.head?.isSome) ++
  leBytes 4 (match q.serials.head? with | some x => x.toNat | none => 0) ++
  leBytes 4 (match q.serials.getLast? with | some x => x.toNat | none => 0) ++
  leBytes 4 q.nextSerial.toNat ++ leBytes 1 s.cfg.traceMode.code ++ leBytes 2 s.tuning.traceThreshold ++
  leBytes 4 q.created.toNat ++ leBytes 4 q.matched.toNat ++ leBytes 4 q.expired.toNat ++ leBytes 4 q.evicted.toNat ++
  leBytes 4 q.cleared.toNat ++ leBytes 4 q.lost.toNat

/-- Section 0 of a head's record (29 bytes): its state (R114, R205). -/
def headStateBytes (h : HeadId) (x : Head) : List Byte :=
  let e := x.entry
  leBytes 1 h.val ++ leBytes 1 0 ++ leBytes 1 x.seq.state.code ++ leBytes 1 e.service.code ++
  leBytes 1 (flagCode (e.service.reasonCode != 0) + 2 * flagCode e.lastDeviation.isSome + 4 * flagCode e.frozen +
    8 * flagCode e.dripWarning) ++
  leBytes 1 e.service.reasonCode ++ leBytes 4 e.q ++ leSigned e.trim ++ leBytes 2 e.epoch.toNat ++ leBytes 2 e.l16 ++
  leBytes 1 e.faults ++ leBytes 1 e.suspect ++ leBytes 1 e.history.length ++
  ((e.history.map fun (o : FillOutcome) => BitVec.ofNat 8 o.code) ++ List.replicate 8 0).take 8 ++
  (match e.lastDeviation with | some d => leSigned d | none => leBytes 2 0)

/-- The sixteen counters in the order of section 1 (chapter 11). -/
def statsList (x : Stats) : List U16 :=
  [x.fillsStarted, x.recordsMade, x.emptyPockets, x.ok, x.outOfTol, x.short, x.overrun, x.noFlow, x.noPressure,
   x.burst, x.valve, x.aborted, x.notFilled, x.reportsApplied, x.reportsNotApplied, x.dripTotal]

/-- Section 1 of a head's record (36 bytes): its statistics and glitch counter (R114, R205). -/
def headStatsBytes (h : HeadId) (x : Head) : List Byte :=
  leBytes 1 h.val ++ leBytes 1 1 ++ ((statsList x.entry.stats).flatMap fun c => leBytes 2 c.toNat) ++
  leBytes 2 x.iface.glitches.toNat

end Sys2Proof.Machine
end

