-- ==== Sys2Proof/Machine/Operands.lean ====
section
/-! DEFINITION. The operand forms of the requests: fields at fixed offsets of the operand bytes (R203, chapter 11),
and the recipe, configuration and tuning blocks read from them with their range checks (R116, R117, R179, R180, R182,
R204). -/

namespace Sys2Proof.Machine

/-- The unsigned field of `width` bytes at `offset` (R203). -/
def fieldAt (ops : List Byte) (offset width : Nat) : Nat := leValue ((ops.drop offset).take width)

/-- The signed 16-bit field at `offset` (R203). -/
def signedAt (ops : List Byte) (offset : Nat) : Int := (BitVec.ofNat 16 (fieldAt ops offset 2)).toInt

/-- A flag byte: clear 0, set 1, any other value out of range (R204). -/
def flagOf (n : Nat) : Option Bool := if n = 0 then some false else if n = 1 then some true else none

/-- A slot number, 0 to 7 (R119, R120, R121, R125, R127). -/
def slotOf (n : Nat) : Option Slot := if h : n < 8 then some ⟨n, h⟩ else none

/-- A head number, below the configured head count `n` (R94). -/
def headOf (n x : Nat) : Option HeadId := if h : x < 128 then (if x < n then some ⟨x, h⟩ else none) else none

/-- The trace mode byte: ROLL 0, HOLD 1 (R204). -/
def traceModeOf (n : Nat) : Option TraceMode := if n = 0 then some .roll else if n = 1 then some .hold else none

/-- The ATTN mode byte: LEVEL 0, PULSE 1 (R204). -/
def attnModeOf (n : Nat) : Option AttnMode := if n = 0 then some .level else if n = 1 then some .pulse else none

/-- The fields of a recipe as the bytes at `offset` carry them, with a resume-reject flag already read
(chapter 11, "Recipe record"). -/
def recipeFields (ops : List Byte) (offset : Nat) (resumeReject : Bool) : Recipe where
  product := BitVec.ofNat 16 (fieldAt ops offset 2)
  vT := fieldAt ops (offset + 2) 2
  vSlow := fieldAt ops (offset + 4) 2
  tolerance := fieldAt ops (offset + 6) 2
  deadBand := fieldAt ops (offset + 8) 1
  grossLimit := fieldAt ops (offset + 9) 2
  trimGain := fieldAt ops (offset + 11) 1
  leadGain := fieldAt ops (offset + 12) 1
  oMax := fieldAt ops (offset + 13) 1
  noFlow := fieldAt ops (offset + 14) 2
  settle := fieldAt ops (offset + 16) 2
  snift := fieldAt ops (offset + 18) 2
  aPress := fieldAt ops (offset + 20) 2
  aFill := fieldAt ops (offset + 22) 2
  aClose := fieldAt ops (offset + 24) 2
  aSnift := fieldAt ops (offset + 26) 2
  aRelease := fieldAt ops (offset + 28) 2
  resumeReject := resumeReject

/-- Every field of a recipe lies within the range of section 6.1 (R116). -/
def Recipe.inRange (r : Recipe) : Bool :=
  (500 ≤ r.vT && r.vT ≤ 30000) && r.vSlow ≤ r.vT && (1 ≤ r.tolerance && r.tolerance ≤ 500) && r.deadBand ≤ 100 &&
  (r.deadBand + 1 ≤ r.grossLimit && r.grossLimit ≤ 2000) && r.trimGain ≤ 6 && r.leadGain ≤ 6 && r.oMax ≤ 255 &&
  (20 ≤ r.noFlow && r.noFlow ≤ 2000) && r.settle ≤ 2000 && (20 ≤ r.snift && r.snift ≤ 2000)

/-- The five window angles ascend from 50 to 3550 by steps of at least 50 (R117). -/
def Recipe.windowsOk (r : Recipe) : Bool :=
  50 ≤ r.aPress && r.aPress + 50 ≤ r.aFill && r.aFill + 50 ≤ r.aClose && r.aClose + 50 ≤ r.aSnift &&
  r.aSnift + 50 ≤ r.aRelease && r.aRelease ≤ 3550

/-- A recipe the store accepts (R116, R117). -/
def Recipe.acceptable (r : Recipe) : Bool := r.inRange && r.windowsOk

/-- The acceptable recipe that the bytes at `offset` carry, if they carry one (R116, R117, R204). -/
def recipeOf (ops : List Byte) (offset : Nat) : Option Recipe :=
  match flagOf (fieldAt ops (offset + 30) 1) with
  | none => none
  | some flag =>
    let r := recipeFields ops offset flag
    if r.acceptable then some r else none

/-- The configuration block that a CONFIG_WRITE stores: N, T, stack depth and trace mode must be in range, the other
fields are brought into theirs (R179, R180). -/
def configOf (ops : List Byte) : Option ConfigBlock :=
  let n := fieldAt ops 0 1
  let t := fieldAt ops 1 2
  let depth := fieldAt ops 6 1
  match traceModeOf (fieldAt ops 7 1) with
  | none => none
  | some traceMode =>
    if (12 ≤ n ∧ n ≤ 128) ∧ (1024 ≤ t ∧ t ≤ 32768) ∧ (depth = 2 ∨ depth = 6) then
      some {
        n := n
        t := t
        tolerance := clampNat 0 15 (fieldAt ops 3 1)
        stopTimeout := clampNat 20 2000 (fieldAt ops 4 2)
        depth := depth
        traceMode := traceMode
        horizon := clampNat 1 15 (fieldAt ops 8 1)
        spacing := clampNat 1 255 (fieldAt ops 9 1)
        valveSettle := clampNat 2 100 (fieldAt ops 10 1)
        holdLimit := clampNat 1 600 (fieldAt ops 11 2) }
    else none

/-- The tuning block that a TUNING_WRITE stores, every field brought into its range (R182). -/
def tuningOf (ops : List Byte) : TuningBlock where
  trimLimit := clampNat 0 500 (fieldAt ops 0 2)
  blockThreshold := clampNat 1 8 (fieldAt ops 2 1)
  suspectTurns := clampNat 0 3 (fieldAt ops 3 1)
  dripLimit := clampNat 0 255 (fieldAt ops 4 1)
  traceThreshold := clampNat 1 256 (fieldAt ops 5 2)

end Sys2Proof.Machine
end

