-- ==== Sys2Proof/Machine/Requests.lean ====
section
/-! DEFINITION. The request code table: codes, permissions and operand lengths (R195, R196, chapter 10 "Request codes",
chapter 11 "Operands and data by request"). -/

namespace Sys2Proof.Machine

/-- Every request with its code. -/
def requestTable : List (Nat × Request) :=
  [(0x00, .nop), (0x01, .identify), (0x02, .status), (0x03, .eventsRead), (0x04, .eventsMask),
   (0x10, .modeProduce), (0x11, .modeDrain), (0x12, .modeHalt), (0x13, .modeResume), (0x14, .modeSetup),
   (0x15, .restart), (0x16, .configWrite), (0x17, .configRead), (0x18, .tuningWrite), (0x19, .tuningRead),
   (0x1A, .angleRearm), (0x1B, .pocketsClear)] ++
  [(0x20, .recipeWrite), (0x21, .recipeRead), (0x22, .recipeErase),
   (0x24, .stackPush), (0x25, .stackPop), (0x26, .stackReplace), (0x27, .stackRead)] ++
  [(0x30, .headRead), (0x31, .headCalWrite), (0x32, .headTrimSet), (0x33, .headLeadSet), (0x34, .headBlock),
   (0x35, .headRelease), (0x36, .headStatsClear)] ++
  [(0x40, .traceStatus), (0x41, .traceNext), (0x42, .traceFind), (0x43, .traceRewind), (0x44, .traceClear),
   (0x45, .serialSet), (0x50, .levelReport)]

/-- The request of a code byte, if the table has it. -/
def requestOf (code : Byte) : Option Request :=
  (requestTable.find? fun row => decide (row.1 = code.toNat)).map Prod.snd

/-- Whether a port permits a request (R196). -/
def permits : Port → Request → Bool
  | .line, .levelReport => false
  | .line, _ => true
  | .inspection, r =>
    decide (r ∈ [Request.nop, .identify, .status, .eventsRead, .eventsMask, .headRead, .traceStatus, .traceNext,
      .traceFind, .traceRewind, .levelReport])

/-- The operand lengths a request accepts (R195). -/
def Request.lengths : Request → List Nat
  | .eventsMask => [3]
  | .configWrite => [13]
  | .tuningWrite => [7]
  | .recipeWrite => [32]
  | .recipeRead => [1]
  | .recipeErase => [1]
  | .stackPush => [1, 3]
  | .stackReplace => [1]
  | .headRead => [1, 2]
  | .headCalWrite => [5]
  | .headTrimSet => [4]
  | .headLeadSet => [3]
  | .headBlock => [1]
  | .headRelease => [1]
  | .headStatsClear => [1]
  | .traceFind => [4]
  | .serialSet => [4]
  | .levelReport => [6]
  | .nop | .identify | .status | .eventsRead | .modeProduce | .modeDrain | .modeHalt | .modeResume | .modeSetup
  | .restart | .configRead | .tuningRead | .angleRearm | .pocketsClear | .stackPop | .stackRead | .traceStatus
  | .traceNext | .traceRewind | .traceClear => [0]

end Sys2Proof.Machine
end

