-- ==== Sys2Proof/Machine/Ports.lean ====
section
/-! DEFINITION. The line and inspection ports (chapter 10): the check byte, the fall and the rise of select, and the
meanings of SELECT_FALL, FRAME_END, ATTN_PULSE_END, NOP, EVENTS_READ and EVENTS_MASK. -/

namespace Sys2Proof.Machine

/-! ## The check byte (R191) -/

/-- One bit of the CRC register shifted out: x⁸ + x² + x + 1 (R191). -/
def crcShift (x : Byte) : Byte := if x.msb then (x <<< 1) ^^^ 0x07#8 else x <<< 1

/-- One byte taken into the CRC register, most significant bit first (R191). -/
def crcByte (register b : Byte) : Byte := Nat.repeat crcShift 8 (register ^^^ b)

/-- The check byte over `bytes` (R191). -/
def checkByte (bytes : List Byte) : Byte := bytes.foldl crcByte 0

/-! ## The clocks of a frame (R188) -/

/-- The whole bytes that the clocks of a frame shift in, with `k` bits of the next one already in `register`: eight
clocks move one byte, most significant bit first, and a group cut off by the rise of select is no byte (R188). -/
def shiftBits (register : Byte) (k : Nat) : List Bool → List Byte
  | [] => []
  | b :: rest =>
    if k = 7 then register.shiftConcat b :: shiftBits 0 0 rest else shiftBits (register.shiftConcat b) (k + 1) rest

/-- The whole bytes that a frame shifts in from its first clock on (R188). -/
def shiftedIn (bits : List Bool) : List Byte := shiftBits 0 0 bits

/-! ## What a frame shifts out (R189) -/

/-- The bytes of a response with the collision flag in its status byte, check byte included (R189, R204). -/
def responseBytes (r : Response) (flag : Bool) : List Byte :=
  let body := BitVec.ofNat 8 (r.status.code + 128 * flagCode flag) :: BitVec.ofNat 8 r.data.length :: r.data
  body ++ [checkByte body]

/-- The response a frame shifts out, check byte included; a frame of filler has none (R189). -/
def FrameOut.bytes : FrameOut → List Byte
  | .notReady flag => responseBytes (bare .notReady) flag
  | .response r flag => responseBytes r flag
  | .filler => []

/-- Byte `i` that a frame shifts out: that of its response, and 0x00 filler for as long as the partner clocks after the
check byte, or throughout (R188, R189). -/
def FrameOut.byteAt (out : FrameOut) (i : Nat) : Byte := out.bytes.getD i 0

/-- The first `n` bytes that a frame shifts out (R188, R189). -/
def FrameOut.shiftedOut (out : FrameOut) (n : Nat) : List Byte := (List.range n).map out.byteAt

/-- The level of the data output at clock `k` of a frame, most significant bit of each byte first (R188). -/
def FrameOut.bitAt (out : FrameOut) (k : Nat) : Bool := (out.byteAt (k / 8)).getMsbD (k % 8)

/-- What a frame that opens now shifts out (R189). -/
def PortState.output (x : PortState) : FrameOut :=
  match x.slot, x.buffer with
  | some _, _ => .notReady x.collision
  | none, some r => .response r x.collision
  | none, none => .filler

/-- The fall of select opens a frame and fixes its output; with a frame already open there is no fall
(R189, notes/assumptions/17.md). -/
def State.openFrame (p : Port) (s : State) : State :=
  s.updPort p fun x =>
    match x.frame with
    | none => { x with frame := some x.output }
    | some _ => x

/-- SELECT_FALL (R189). -/
def execSelectFall (dt : Nat) (port : Port) (s : State) : Result := .next ((s.elapse dt).openFrame port)

/-! ## The end of a frame (R188, R190 to R193) -/

/-- How a frame is classed at its end (R188). -/
inductive FrameClass where
  | empty
  | malformed
  | complete (code : Byte) (operands : List Byte) (check : Byte)
  deriving DecidableEq, Repr

/-- The class of the whole bytes shifted in (R188). -/
def classify : List Byte → FrameClass
  | [] => .empty
  | [_] => .malformed
  | code :: len :: rest =>
    if 48 < len.toNat then .malformed
    else match rest[len.toNat]? with
      | none => .malformed
      | some check => .complete code (rest.take len.toNat) check

/-- Whether the check byte of a complete frame is right (R191). -/
def checkGood (code : Byte) (operands : List Byte) (check : Byte) : Bool :=
  decide (checkByte (code :: BitVec.ofNat 8 operands.length :: operands) = check)

/-- The delivery decision at the end of a frame that has moved `count` bytes: a response shifted out whole leaves the
buffer, and the flag it showed is cleared (R190). -/
def PortState.deliver (out : FrameOut) (count : Nat) (x : PortState) : PortState :=
  match out with
  | .response r flag =>
    if (responseBytes r flag).length ≤ count then
      { x with buffer := none, collision := if flag then false else x.collision }
    else x
  | .notReady _ => x
  | .filler => x

/-- A port is free when its slot is IDLE and its buffer empty (section 10.4). -/
def PortState.free (x : PortState) : Bool := x.slot.isNone && x.buffer.isNone

/-- A frame error (R192 case 1, R193). -/
def PortState.frameError (free : Bool) (x : PortState) : PortState :=
  { x with
    frameErrors := satInc x.frameErrors
    buffer := if free then some (bare .badFrame) else x.buffer }

/-- A check error (R192 case 2, R193). -/
def PortState.checkError (free : Bool) (x : PortState) : PortState :=
  { x with
    checkErrors := satInc x.checkErrors
    buffer := if free then some (bare .badCheck) else x.buffer }

/-- A collision (R193). -/
def PortState.collide (x : PortState) : PortState :=
  { x with collision := true, collisions := satInc x.collisions }

/-- A complete frame with a good check byte on a free port: answered at once, or accepted into the slot
(R192 cases 3 to 5). -/
def PortState.acceptRequest (p : Port) (code : Byte) (operands : List Byte) (x : PortState) : PortState :=
  match requestOf code with
  | none => { x with buffer := some (bare .unknownRequest) }
  | some r =>
    if permits p r then { x with slot := some ⟨r, operands⟩ } else { x with buffer := some (bare .notPermitted) }

/-- What becomes of a frame's request, after the delivery decision (R192, R193). -/
def State.takeFrame (p : Port) (bytes : List Byte) (s : State) : State :=
  let free := (s.port p).free
  match classify bytes with
  | .empty => s
  | .malformed => (s.updPort p (PortState.frameError free)).raiseOn p .portError
  | .complete code operands check =>
    if checkGood code operands check = false then (s.updPort p (PortState.checkError free)).raiseOn p .portError
    else if free then s.updPort p (PortState.acceptRequest p code operands)
    else (s.updPort p PortState.collide).raiseOn p .portError

/-- The rise of select closes the open frame, which has moved `bytes` in and as many out: delivery, then the request
(R190, R192, R193). With no frame open, the frame was abandoned by a power-on reset, and the rise has no effect
(R187, notes/assumptions/17.md). -/
def State.closeFrame (p : Port) (bytes : List Byte) (s : State) : State :=
  match (s.port p).frame with
  | none => s
  | some out => (s.updPort p fun x => { x.deliver out bytes.length with frame := none }).takeFrame p bytes

/-- FRAME_END (R188, R192). -/
def execFrameEnd (dt : Nat) (port : Port) (bits : List Bool) (s : State) : Result :=
  .next ((s.elapse dt).closeFrame port (shiftedIn bits))

/-! ## ATTN -/

/-- The ATTN pulse of a port ends 2 µs after its last cause (R199). -/
def State.endPulse (p : Port) (s : State) : State :=
  s.updPort p fun x =>
    match x.pulse with
    | none => x
    | some t => if t + Config.pulseTime ≤ s.now then { x with pulse := none } else x

/-- ATTN_PULSE_END (R199). -/
def execAttnPulseEnd (dt : Nat) (port : Port) (s : State) : Result := .next ((s.elapse dt).endPulse port)

/-! ## NOP, EVENTS_READ and EVENTS_MASK -/

/-- NOP (R195). -/
def serveNop (_ops : List Byte) (s : State) : Response × State := (bare .ok, s)

/-- NOP. -/
def execNop (dt : Nat) (port : Port) (s : State) : Result :=
  .next ((s.elapse dt).complete port .nop Request.nop.lengths serveNop)

/-- EVENTS_READ: the response, then the returned bits and counters cleared (R200). -/
def serveEventsRead (p : Port) (_ops : List Byte) (s : State) : Response × State :=
  let s' := s.updPort p fun x => { x with events := 0, checkErrors := 0, frameErrors := 0, collisions := 0 }
  (⟨.ok, eventsBytes p s⟩,
    match p with
    | .line => s'
    | .inspection => { s' with reportErrors := 0 })

/-- EVENTS_READ. -/
def execEventsRead (dt : Nat) (port : Port) (s : State) : Result :=
  .next ((s.elapse dt).complete port .eventsRead Request.eventsRead.lengths (serveEventsRead port))

/-- The mask and ATTN mode stored by EVENTS_MASK, and the pulse it gives or ends (R199, R201). -/
def PortState.setMask (now : Nat) (mask : U16) (mode : AttnMode) (x : PortState) : PortState :=
  { x with
    mask := mask
    attnMode := mode
    pulse :=
      match mode with
      | .level => none
      | .pulse =>
        if anySet x.events (mask &&& ~~~x.mask) || (decide (x.attnMode = .level) && anySet x.events mask) then some now
        else x.pulse }

/-- EVENTS_MASK (R201). -/
def serveEventsMask (p : Port) (ops : List Byte) (s : State) : Response × State :=
  match attnModeOf (fieldAt ops 2 1) with
  | none => (bare .badValue, s)
  | some mode =>
    let mask := BitVec.ofNat 16 (fieldAt ops 0 2) &&& keptBits p
    (⟨.ok, leBytes 2 mask.toNat ++ leBytes 1 mode.code⟩, s.updPort p (PortState.setMask s.now mask mode))

/-- EVENTS_MASK. -/
def execEventsMask (dt : Nat) (port : Port) (s : State) : Result :=
  .next ((s.elapse dt).complete port .eventsMask Request.eventsMask.lengths (serveEventsMask port))

end Sys2Proof.Machine
end

