-- ==== Sys2Proof/Machine/RecipeStore.lean ====
section
/-! DEFINITION. The recipe store and the recipe stack (chapter 6): the meanings of RECIPE_WRITE, RECIPE_READ,
RECIPE_ERASE, STACK_PUSH, STACK_POP, STACK_REPLACE and STACK_READ. -/

namespace Sys2Proof.Machine

/-- At least one stack entry names the slot (R118). -/
def RecipeStack.names (k : RecipeStack) (slot : Slot) : Bool := k.entries.any fun e => decide (e.slot = slot)

/-- A head holds a plan from the slot, in ARMED through DISCHARGE (R118). -/
def holdsPlanFrom (slot : Slot) (h : Head) : Bool :=
  h.seq.state.holdsPlan && (match h.seq.plan with | some p => decide (p.slot = slot) | none => false)

/-- At least one head holds a plan from the slot (R118). -/
def State.planned (s : State) (slot : Slot) : Bool := s.anyHead (holdsPlanFrom slot)

/-- The slot is in use (R118). -/
def State.inUse (s : State) (slot : Slot) : Bool := s.stack.names slot || s.planned slot

/-- PRODUCTION or DRAIN: the modes that guard slots in use (R119, R120) and refuse RESTART, ANGLE_REARM and
POCKETS_CLEAR. -/
def Mode.filling : Mode → Bool
  | .production | .drain => true
  | .setup | .halt => false

/-- The state with a slot's contents replaced. -/
def State.setRecipe (s : State) (slot : Slot) (r : Option Recipe) : State :=
  { s with recipes := s.recipes.set slot.val r slot.isLt }

/-- RECIPE_WRITE (R119). -/
def serveRecipeWrite (ops : List Byte) (s : State) : Response × State :=
  match slotOf (fieldAt ops 0 1) with
  | none => (bare .badValue, s)
  | some slot =>
    match recipeOf ops 1 with
    | none => (bare .badValue, s)
    | some r =>
      if s.mode.filling && s.inUse slot then (bare .inUse, s)
      else (⟨.ok, leBytes 1 slot.val⟩, s.setRecipe slot (some r))

/-- RECIPE_WRITE. -/
def execRecipeWrite (dt : Nat) (s : State) : Result :=
  .next ((s.elapse dt).complete .line .recipeWrite Request.recipeWrite.lengths serveRecipeWrite)

/-- RECIPE_READ (R121). -/
def serveRecipeRead (ops : List Byte) (s : State) : Response × State :=
  match slotOf (fieldAt ops 0 1) with
  | none => (bare .badValue, s)
  | some slot =>
    match s.recipes[slot.val] with
    | none => (bare .notFound, s)
    | some r =>
      (⟨.ok, leBytes 1 slot.val ++ recipeBytes r ++ leBytes 1 (flagCode (s.stack.names slot)) ++
        leBytes 1 (s.countHeads (holdsPlanFrom slot))⟩, s)

/-- RECIPE_READ. -/
def execRecipeRead (dt : Nat) (s : State) : Result :=
  .next ((s.elapse dt).complete .line .recipeRead Request.recipeRead.lengths serveRecipeRead)

/-- RECIPE_ERASE (R120). -/
def serveRecipeErase (ops : List Byte) (s : State) : Response × State :=
  match slotOf (fieldAt ops 0 1) with
  | none => (bare .badValue, s)
  | some slot =>
    if s.stack.names slot then (bare .inUse, s)
    else if s.mode.filling && s.planned slot then (bare .inUse, s)
    else (⟨.ok, leBytes 1 slot.val⟩, s.setRecipe slot none)

/-- RECIPE_ERASE. -/
def execRecipeErase (dt : Nat) (s : State) : Result :=
  .next ((s.elapse dt).complete .line .recipeErase Request.recipeErase.lengths serveRecipeErase)

/-- The state with the stack's entries replaced. -/
def State.setEntries (s : State) (l : List StackEntry) : State := { s with stack := { s.stack with entries := l } }

/-- An accepted push: a full stack loses its bottom entry first, which counts as a spill and raises STACK_NOTICE
(R125, R133). -/
def State.push (e : StackEntry) (s : State) : State :=
  if s.stack.entries.length < s.cfg.depth then s.setEntries (e :: s.stack.entries)
  else
    ({ s with
      stack := ⟨e :: s.stack.entries.dropLast, satInc s.stack.spills⟩ }).raise .stackNotice

/-- STACK_PUSH (R125). -/
def serveStackPush (ops : List Byte) (s : State) : Response × State :=
  match slotOf (fieldAt ops 0 1) with
  | none => (bare .badValue, s)
  | some slot =>
    if ops.length = 3 ∧ fieldAt ops 1 2 = 0 then (bare .badValue, s)
    else if s.recipes[slot.val] = none then (bare .notFound, s)
    else
      let s' := s.push ⟨slot, if ops.length = 3 then some (fieldAt ops 1 2) else none⟩
      (⟨.ok, stackBytes s'⟩, s')

/-- STACK_PUSH. -/
def execStackPush (dt : Nat) (s : State) : Result :=
  .next ((s.elapse dt).complete .line .stackPush Request.stackPush.lengths serveStackPush)

/-- STACK_POP (R126). -/
def serveStackPop (_ops : List Byte) (s : State) : Response × State :=
  match s.stack.entries with
  | _ :: e :: rest => (⟨.ok, stackBytes (s.setEntries (e :: rest))⟩, s.setEntries (e :: rest))
  | _ => (bare .floor, s)

/-- STACK_POP. -/
def execStackPop (dt : Nat) (s : State) : Result :=
  .next ((s.elapse dt).complete .line .stackPop Request.stackPop.lengths serveStackPop)

/-- STACK_REPLACE (R127). -/
def serveStackReplace (ops : List Byte) (s : State) : Response × State :=
  match slotOf (fieldAt ops 0 1) with
  | none => (bare .badValue, s)
  | some slot =>
    if s.recipes[slot.val] = none then (bare .notFound, s)
    else
      let s' := s.setEntries (⟨slot, none⟩ :: s.stack.entries.drop 1)
      (⟨.ok, stackBytes s'⟩, s')

/-- STACK_REPLACE. -/
def execStackReplace (dt : Nat) (s : State) : Result :=
  .next ((s.elapse dt).complete .line .stackReplace Request.stackReplace.lengths serveStackReplace)

/-- STACK_READ (R128). -/
def serveStackRead (_ops : List Byte) (s : State) : Response × State := (⟨.ok, stackBytes s⟩, s)

/-- STACK_READ. -/
def execStackRead (dt : Nat) (s : State) : Result :=
  .next ((s.elapse dt).complete .line .stackRead Request.stackRead.lengths serveStackRead)

end Sys2Proof.Machine
end

