-- ==== Sys2Proof/Machine/Turret.lean ====
section
/-! DEFINITION. The angle tracker (chapter 1) and the meanings of its commands: POWER_ON_RESET, ENCODER_COUNT,
INDEX_ARRIVAL and STOP_TIMEOUT. -/

namespace Sys2Proof.Machine

/-- The debt limit floor(T/4) (R4). -/
def debtLimit (cfg : ConfigBlock) : Nat := cfg.t / 4

/-- ANGLE_FAULT: FAULT, slip count 0, timing mark invalid, speed 0; the line port event; HALT entry. In FAULT nothing
further is raised (R12). -/
def State.angleFault (s : State) : State :=
  if s.tracker.ref = .fault then s
  else
    (({ s with tracker := { s.tracker with ref := .fault, slips := 0, timingMark := false, speed := 0 } }).raise
      .angleFault).enterHalt

/-- The motion state leaves RUNNING for `m`: speed 0, timing mark invalid, and motion-leave to every sequencer below N
(R14). -/
def State.leaveRunning (m : Motion) (s : State) : State :=
  ({ s with tracker := { s.tracker with motion := m, speed := 0, timingMark := false } }).mapBelow
    (Head.motionLeave s.now s.cfg)

/-- A reverse count (R4). -/
def State.reverseCount (s : State) : State :=
  if s.tracker.debt + 1 ≤ debtLimit s.cfg then
    let s' := { s with tracker := { s.tracker with debt := s.tracker.debt + 1 } }
    match s.tracker.motion with
    | .running => s'.leaveRunning .reversing
    | .stopped | .reversing => { s' with tracker := { s'.tracker with motion := .reversing } }
  else s.angleFault

/-- A debt payment (R3). -/
def State.payDebt (s : State) : State :=
  if s.tracker.debt = 1 then
    { s with tracker := { s.tracker with debt := 0, motion := .stopped, stopStart := s.now } }
  else { s with tracker := { s.tracker with debt := s.tracker.debt - 1 } }

/-- The motion step of an advance: RUNNING with a first-advance event from STOPPED, and the stop clock restarts
(R5 step 1). -/
def State.advanceMotion (s : State) : State :=
  match s.tracker.motion with
  | .stopped =>
    ({ s with tracker := { s.tracker with motion := .running, stopStart := s.now } }).mapBelow
      (Head.firstAdvance s.now s.cfg)
  | .running | .reversing => { s with tracker := { s.tracker with stopStart := s.now } }

/-- Whether the next advance takes the angle from T−1 to 0 (R6). -/
def State.wraps (s : State) : Bool := decide (s.tracker.angle + 1 = s.cfg.t)

/-- The angle one count forward, and the revolution counter at the wrap (R3, R5 step 2). -/
def State.moveAngle (s : State) : State :=
  if s.wraps then
    { s with tracker := { s.tracker with angle := 0, revolutions := s.tracker.revolutions + 1 } }
  else { s with tracker := { s.tracker with angle := s.tracker.angle + 1 } }

/-- Trace expiry at a revolution event (R142). -/
def State.expireTraces (s : State) : State :=
  { s with queue := s.queue.expire s.tracker.revolutions s.cfg.horizon }

/-- The revolution time in whole milliseconds, saturating at 2³² − 1, and 1 in place of 0 (R16). -/
def revolutionTime (now start : Nat) : Nat := max 1 (min (elapsedMs now start) 4294967295)

/-- The speed computation of a revolution event, then the timing mark, then the revolution clock (R6, R15, R16). -/
def State.speedStep (s : State) : State :=
  if s.tracker.ref = .tracking then
    { s with
      tracker := { s.tracker with
        speed :=
          if s.tracker.timingMark then roundHalfUp (3600000 * s.cfg.n) (revolutionTime s.now s.tracker.revStart)
          else s.tracker.speed
        timingMark := decide (s.tracker.motion = .running)
        revStart := s.now } }
  else { s with tracker := { s.tracker with timingMark := false, revStart := s.now } }

/-- The index deadline at angle floor(T/8) in TRACKING (R11). -/
def State.indexDeadline (s : State) : State :=
  if s.tracker.angle = s.cfg.t / 8 ∧ s.tracker.ref = .tracking then
    if s.tracker.indexMark then { s with tracker := { s.tracker with indexMark := false } } else s.angleFault
  else s

/-- An advance, in the order of R5: motion, revolution counter, boundaries, trace expiry, speed, index deadline. -/
def State.advance (s : State) : State :=
  let s1 := s.advanceMotion.moveAngle.deliverBoundaries
  (if s.wraps then s1.expireTraces.speedStep else s1).indexDeadline

/-- A forward count (R3). -/
def State.forwardCount (s : State) : State := if 0 < s.tracker.debt then s.payDebt else s.advance

/-- The count that a change of the two phases decodes to (R2). -/
inductive PhaseChange where
  | unchanged
  | forward
  | reverse
  | both
  deriving DecidableEq, Repr

/-- The decoding of a change of ENCA and ENCB: with one phase changed, the direction follows from the phase and the
levels (R2). -/
def decodePhases (a b a' b' : Bool) : PhaseChange :=
  if a = a' then
    if b = b' then .unchanged else if b' = a' then .forward else .reverse
  else if b = b' then (if a' = b' then .reverse else .forward)
  else .both

/-- ENCODER_COUNT: the new phase levels, decoded and taken (R2). -/
def execEncoderCount (dt : Nat) (a b infeed : Bool) (s : State) : Result :=
  let s' := { s.elapse dt with encA := a, encB := b, infeed := infeed }
  match decodePhases s.encA s.encB a b with
  | .unchanged => .next s'
  | .forward => .next s'.forwardCount
  | .reverse => .next s'.reverseCount
  | .both => .next s'.angleFault

/-- The first reference (R8). -/
def State.firstReference (s : State) : State :=
  { s with
    tracker := { s.tracker with angle := 0, slips := 0, indexMark := true, timingMark := false, ref := .tracking } }

/-- The index error at advance angle `a` (R9). -/
def indexError (t a : Nat) : Int := if 2 * a < t then (a : Int) else (a : Int) - t

/-- `k` reverse counts of a correction: the one that would pass the debt limit raises ANGLE_FAULT and ends it (R10). -/
def reverseCounts : Nat → State → State
  | 0, s => s
  | k + 1, s =>
    if s.tracker.debt + 1 ≤ debtLimit s.cfg then reverseCounts k s.reverseCount else s.reverseCount

/-- `k` forward counts of a correction (R10). -/
def forwardCounts : Nat → State → State
  | 0, s => s
  | k + 1, s => forwardCounts k s.forwardCount

/-- An index correction by −e (R10). -/
def State.correct (e : Int) (s : State) : State :=
  if 0 < e then reverseCounts e.natAbs s else forwardCounts e.natAbs s

/-- The check of an index arrival taken in TRACKING (R9). -/
def State.indexCheck (s : State) : State :=
  let e := indexError s.cfg.t s.tracker.angle
  if e.natAbs ≤ s.cfg.tolerance then ({ s with tracker := { s.tracker with slips := 0 } }).correct e
  else if s.tracker.slips = 0 then ({ s with tracker := { s.tracker with slips := 1 } }).correct e
  else s.angleFault

/-- An index arrival (R7). -/
def State.indexArrival (s : State) : State :=
  match s.tracker.ref with
  | .fault => s
  | .unreferenced => if 0 < s.tracker.debt then s else s.firstReference
  | .tracking =>
    let s' := { s with tracker := { s.tracker with indexMark := true } }
    if 0 < s.tracker.debt then s' else s'.indexCheck

/-- INDEX_ARRIVAL (R7). -/
def execIndexArrival (dt : Nat) (infeed : Bool) (s : State) : Result :=
  .next ({ s.elapse dt with infeed := infeed }).indexArrival

/-- Whether the stop clock has reached the stop timeout in force (R14). -/
def State.stopDue (s : State) : Bool := decide (s.tracker.stopStart + s.cfg.stopTimeout * 1000 ≤ s.now)

/-- The stop clock compared with the stop timeout in RUNNING (R14). -/
def State.checkStop (s : State) : State :=
  if s.tracker.motion = .running ∧ s.stopDue then s.leaveRunning .stopped else s

/-- STOP_TIMEOUT (R14). -/
def execStopTimeout (dt : Nat) (s : State) : Result := .next (s.elapse dt).checkStop

/-- Every block at its power-on values; the pin levels are those on the pins (R1, R21, R36, R92, R115, R124, R134,
R170, R187). -/
def State.powerOn (s : State) : State :=
  { State.reset with
    now := s.now
    encA := s.encA
    encB := s.encB
    infeed := s.infeed
    estop := s.estop
    tracker := trackerReset s.now
    heads := (s.mapHeads fun _ h => headPowerOn h.psPin h.sense).heads
    choices := s.choices
    pending := s.pending }

/-- POWER_ON_RESET. -/
def execPowerOnReset (dt : Nat) (s : State) : Result := .next (s.elapse dt).powerOn

end Sys2Proof.Machine
end

