-- ==== Sys2Proof/Machine/Modes.lean ====
section
/-! DEFINITION. The mode controller (chapter 9) and ANGLE_REARM (R13): the meanings of MODE_PRODUCE, MODE_DRAIN,
MODE_HALT, MODE_RESUME, MODE_SETUP, RESTART, CONFIG_WRITE, CONFIG_READ, TUNING_WRITE, TUNING_READ, ANGLE_REARM,
POCKETS_CLEAR, STATUS and IDENTIFY. -/

namespace Sys2Proof.Machine

/-! ## Mode requests (R171 to R176) -/

/-- The response of an accepted mode request: the mode as it stands after the request (R171). -/
def modeAnswer (s : State) : Response × State := (⟨.ok, leBytes 1 s.mode.code⟩, s)

/-- Readiness for PRODUCTION: TRACKING, and ESTOP RELEASED (R172, R176). -/
def State.ready (s : State) : Bool := decide (s.tracker.ref = .tracking) && !s.estop

/-- MODE_PRODUCE (R171, R172). -/
def serveModeProduce (_ops : List Byte) (s : State) : Response × State :=
  if s.mode ≠ .setup then (bare .wrongMode, s)
  else if s.ready then modeAnswer (s.setMode .production)
  else (bare .notReady, s)

/-- MODE_PRODUCE. -/
def execModeProduce (dt : Nat) (s : State) : Result :=
  .next ((s.elapse dt).complete .line .modeProduce Request.modeProduce.lengths serveModeProduce)

/-- MODE_DRAIN: it may complete at the same request (R171, R173). -/
def serveModeDrain (_ops : List Byte) (s : State) : Response × State :=
  if s.mode ≠ .production then (bare .wrongMode, s) else modeAnswer (s.setMode .drain).drainCheck

/-- MODE_DRAIN. -/
def execModeDrain (dt : Nat) (s : State) : Result :=
  .next ((s.elapse dt).complete .line .modeDrain Request.modeDrain.lengths serveModeDrain)

/-- MODE_HALT (R171, R175). -/
def serveModeHalt (_ops : List Byte) (s : State) : Response × State := modeAnswer s.enterHalt

/-- MODE_HALT. -/
def execModeHalt (dt : Nat) (s : State) : Result :=
  .next ((s.elapse dt).complete .line .modeHalt Request.modeHalt.lengths serveModeHalt)

/-- MODE_RESUME (R171, R176). -/
def serveModeResume (_ops : List Byte) (s : State) : Response × State :=
  if s.mode ≠ .halt then (bare .wrongMode, s)
  else if s.ready then modeAnswer (s.setMode .production)
  else (bare .notReady, s)

/-- MODE_RESUME. -/
def execModeResume (dt : Nat) (s : State) : Result :=
  .next ((s.elapse dt).complete .line .modeResume Request.modeResume.lengths serveModeResume)

/-- MODE_SETUP (R171, R176). -/
def serveModeSetup (_ops : List Byte) (s : State) : Response × State :=
  if s.mode ≠ .halt then (bare .wrongMode, s) else modeAnswer (s.setMode .setup)

/-- MODE_SETUP. -/
def execModeSetup (dt : Nat) (s : State) : Result :=
  .next ((s.elapse dt).complete .line .modeSetup Request.modeSetup.lengths serveModeSetup)

/-! ## RESTART (R184, R202) -/

/-- A head at RESTART (R21, R36, R93). -/
def Head.restarted (h : Head) : Head :=
  { h with seq := seqReset, iface := ifaceReset h.psPin, entry := h.entry.restarted }

/-- What both ports take at RESTART: status, counters, flag and pulse cleared, mask and ATTN mode kept (R202). -/
def PortState.restarted (x : PortState) : PortState :=
  { x with
    slot := none
    buffer := none
    collision := false
    checkErrors := 0
    frameErrors := 0
    collisions := 0
    events := 0
    pulse := none }

/-- The inspection port at RESTART: a frame that was shifting out the discarded response goes on with filler (R202). -/
def PortState.inspRestarted (x : PortState) : PortState :=
  { x.restarted with
    frame := match x.frame with
      | some (.response _ _) => some .filler
      | some (.notReady flag) => some (.notReady flag)
      | some .filler => some .filler
      | none => none }

/-- The recipe store at RESTART: slot 0 is loaded with the default recipe if it is empty (R115). -/
def State.restartRecipes (s : State) : Vector (Option Recipe) 8 :=
  match s.recipes[0] with
  | none => s.recipes.set 0 (some defaultRecipe)
  | some _ => s.recipes

/-- Every block at its RESTART values (R184). -/
def State.restarted (s : State) : State :=
  { s with
    tracker := trackerReset s.now
    heads := (s.mapHeads fun _ h => h.restarted).heads
    recipes := s.restartRecipes
    stack := stackReset
    queue := queueReset
    mode := .setup
    line := s.line.restarted
    insp := s.insp.inspRestarted
    reportErrors := 0 }

/-- RESTART (R184). -/
def serveRestart (_ops : List Byte) (s : State) : Response × State :=
  if s.mode.filling then (bare .wrongMode, s) else (bare .ok, s.restarted)

/-- RESTART. -/
def execRestart (dt : Nat) (s : State) : Result :=
  .next ((s.elapse dt).complete .line .restart Request.restart.lengths serveRestart)

/-! ## Configuration and tuning (R179 to R182) -/

/-- The tracker under a new T: R1 but for the revolution counter and the motion state, and REVERSING becomes STOPPED
(R19; the stop clock: notes/assumptions/10.md). -/
def Tracker.newT (now : Nat) (k : Tracker) : Tracker :=
  { trackerReset now with
    revolutions := k.revolutions
    motion := match k.motion with | .reversing => .stopped | .running => .running | .stopped => .stopped
    stopStart := match k.motion with | .reversing => now | .running => k.stopStart | .stopped => k.stopStart }

/-- A head that a raised N brings into service (R22). -/
def Head.intoService (h : Head) : Head :=
  { h with iface := { ifaceReset h.psPin with glitches := h.iface.glitches } }

/-- The stack under a new maximum depth: lowered, the entries beyond it are removed and counted as spills, and
STACK_NOTICE is raised once if there were any (R132, R133). -/
def State.newDepth (old : Nat) (s : State) : State :=
  if s.cfg.depth < old ∧ s.cfg.depth < s.stack.entries.length then
    ({ s with
      stack := ⟨s.stack.entries.take s.cfg.depth,
        satAdd s.stack.spills (s.stack.entries.length - s.cfg.depth)⟩ }).raise .stackNotice
  else s

/-- An accepted configuration block: stored in one step, and taken by every block whose fields are new
(R19, R35, R132, R153, R180). -/
def State.configure (new : ConfigBlock) (s : State) : State :=
  let s1 := { s with cfg := new }
  let s2 := if new.t = s.cfg.t then s1 else { s1 with tracker := s1.tracker.newT s1.now }
  let s3 := if new.stopTimeout = s.cfg.stopTimeout then s2 else s2.checkStop
  let s4 :=
    if s.cfg.n < new.n then
      s3.mapHeads fun h x => if s.cfg.n ≤ h.val ∧ h.val < new.n then x.intoService else x
    else s3
  s4.newDepth s.cfg.depth

/-- Whether some head below N is in a state other than IDLE (R179). -/
def State.headsBusy (s : State) : Bool :=
  (List.finRange 128).any fun h => decide (h.val < s.cfg.n) && decide ((s.head h).seq.state ≠ .idle)

/-- CONFIG_WRITE (R179, R180). -/
def serveConfigWrite (ops : List Byte) (s : State) : Response × State :=
  if s.mode ≠ .setup then (bare .wrongMode, s)
  else if s.headsBusy then (bare .headsBusy, s)
  else match configOf ops with
    | none => (bare .badValue, s)
    | some new => (⟨.ok, configBytes new⟩, s.configure new)

/-- CONFIG_WRITE. -/
def execConfigWrite (dt : Nat) (s : State) : Result :=
  .next ((s.elapse dt).complete .line .configWrite Request.configWrite.lengths serveConfigWrite)

/-- CONFIG_READ (R181). -/
def serveConfigRead (_ops : List Byte) (s : State) : Response × State := (⟨.ok, configBytes s.cfg⟩, s)

/-- CONFIG_READ. -/
def execConfigRead (dt : Nat) (s : State) : Result :=
  .next ((s.elapse dt).complete .line .configRead Request.configRead.lengths serveConfigRead)

/-- An accepted tuning block: stored in one step and taken by the head table; HEAD_BLOCKED is raised once if a lowered
threshold has blocked a head (R108 to R111, R182). -/
def State.tune (new : TuningBlock) (s : State) : State :=
  let s' := { s with tuning := new }.mapHeads fun _ x => { x with entry := x.entry.tuned s.tuning new }
  if s.anyHead fun x => decide ((x.entry.tuned s.tuning new).service ≠ x.entry.service) then s'.raise .headBlocked
  else s'

/-- TUNING_WRITE (R182). -/
def serveTuningWrite (ops : List Byte) (s : State) : Response × State :=
  (⟨.ok, tuningBytes (tuningOf ops)⟩, s.tune (tuningOf ops))

/-- TUNING_WRITE. -/
def execTuningWrite (dt : Nat) (s : State) : Result :=
  .next ((s.elapse dt).complete .line .tuningWrite Request.tuningWrite.lengths serveTuningWrite)

/-- TUNING_READ (R181). -/
def serveTuningRead (_ops : List Byte) (s : State) : Response × State := (⟨.ok, tuningBytes s.tuning⟩, s)

/-- TUNING_READ. -/
def execTuningRead (dt : Nat) (s : State) : Result :=
  .next ((s.elapse dt).complete .line .tuningRead Request.tuningRead.lengths serveTuningRead)

/-! ## ANGLE_REARM and POCKETS_CLEAR -/

/-- The tracker after ANGLE_REARM (R13). -/
def Tracker.rearmed (k : Tracker) : Tracker :=
  { k with ref := .unreferenced, slips := 0, indexMark := false, timingMark := false, speed := 0 }

/-- ANGLE_REARM (R13). -/
def serveAngleRearm (_ops : List Byte) (s : State) : Response × State :=
  if s.mode.filling then (bare .wrongMode, s) else (bare .ok, { s with tracker := s.tracker.rearmed })

/-- ANGLE_REARM. -/
def execAngleRearm (dt : Nat) (s : State) : Result :=
  .next ((s.elapse dt).complete .line .angleRearm Request.angleRearm.lengths serveAngleRearm)

/-- The heads below N in PASS or DISCHARGE, whose records POCKETS_CLEAR makes (R71). -/
def State.clearable (s : State) : List HeadId :=
  (List.finRange 128).filter fun h =>
    decide (h.val < s.cfg.n) &&
      (decide ((s.head h).seq.state = .pass) || decide ((s.head h).seq.state = .discharge))

/-- POCKETS_CLEAR: each record is a creation event of its own, and their order is free (R71, R135, R183,
notes/assumptions/7.md). -/
def servePocketsClear (_ops : List Byte) (s : State) : Response × State :=
  if s.mode.filling then (bare .wrongMode, s)
  else if s.anyHead fun h => decide (h.seq.state = .snift) then (bare .headsBusy, s)
  else
    (⟨.ok, leBytes 1 s.clearable.length⟩,
      s.eachInSomeOrder id s.clearable fun h x => x.makeRecord true h)

/-- POCKETS_CLEAR. -/
def execPocketsClear (dt : Nat) (s : State) : Result :=
  .next ((s.elapse dt).complete .line .pocketsClear Request.pocketsClear.lengths servePocketsClear)

/-! ## STATUS and IDENTIFY -/

/-- STATUS (R185). -/
def serveStatus (_ops : List Byte) (s : State) : Response × State := (⟨.ok, statusBytes s⟩, s)

/-- STATUS. -/
def execStatus (dt : Nat) (port : Port) (s : State) : Result :=
  .next ((s.elapse dt).complete port .status Request.status.lengths serveStatus)

/-- IDENTIFY (R186). -/
def serveIdentify (_ops : List Byte) (s : State) : Response × State :=
  (⟨.ok, leBytes 2 Config.vendorCode ++ leBytes 2 Config.partCode ++ leBytes 1 Config.revision⟩, s)

/-- IDENTIFY. -/
def execIdentify (dt : Nat) (port : Port) (s : State) : Result :=
  .next ((s.elapse dt).complete port .identify Request.identify.lengths serveIdentify)

end Sys2Proof.Machine
end

