-- ==== Sys2Proof/Machine/Signals.lean ====
section
/-! DEFINITION. The head signal interface (chapter 2) and the head timers: the meanings of METER_PULSE, PS_PIN_CHANGE,
PRESSURE_FILTER_EXPIRY, VALVE_SETTLE_EXPIRY, COIL_SENSE_CHANGE, ESTOP_CHANGE, NO_FLOW_EXPIRY, HOLD_EXPIRY,
SETTLE_TIMER_EXPIRY and SNIFT_TIMER_EXPIRY. -/

namespace Sys2Proof.Machine

/-- The value of one output. -/
def Outputs.get {α : Type} (x : Outputs α) : Output → α
  | .p => x.p
  | .f => x.f
  | .s => x.s
  | .v => x.v

/-- One output's value replaced. -/
def Outputs.put {α : Type} (x : Outputs α) (o : Output) (y : α) : Outputs α :=
  match o with
  | .p => { x with p := y }
  | .f => { x with f := y }
  | .s => { x with s := y }
  | .v => { x with v := y }

/-- Whether an MP edge at `now` is accepted after the last accepted pulse (R23). -/
def pulseAccepted (now spacing : Nat) : Option Nat → Bool
  | none => true
  | some t => decide (t + spacing ≤ now)

/-- A rising edge on MP of a head below N (R22, R23, R24). -/
def State.meterEdge (h : HeadId) (s : State) : State :=
  if h.val < s.cfg.n then
    if pulseAccepted s.now s.cfg.spacing (s.head h).iface.lastPulse then
      s.updHead h fun x =>
        ({ x with iface := { x.iface with lastPulse := some s.now } }).acceptedPulse s.now s.cfg (s.localAngle h)
    else s.updHead h fun x => { x with iface := { x.iface with glitches := satInc x.iface.glitches } }
  else s

/-- METER_PULSE (R23). -/
def execMeterPulse (dt head : Nat) (s : State) : Result := onHead head State.meterEdge (s.elapse dt)

/-- The pressure filter on a pin level: it starts when idle and the pin differs from the pressure level, and returns
to idle when the pin changes back (R28). -/
def filterOn (now : Nat) (level : Bool) (i : Iface) : Option PressureFilter :=
  if level = i.pressure then none
  else match i.filter with
    | none => some ⟨level, now⟩
    | some f => some f

/-- A new level on a PS pin. A head at or above N does not take it (R22, R28). -/
def State.psLevel (level : Bool) (h : HeadId) (s : State) : State :=
  if (s.head h).psPin = level then s
  else
    s.updHead h fun x =>
      { x with
        psPin := level
        iface := if h.val < s.cfg.n then { x.iface with filter := filterOn s.now level x.iface } else x.iface }

/-- PS_PIN_CHANGE (R28). -/
def execPsPinChange (dt head : Nat) (level : Bool) (s : State) : Result := onHead head (State.psLevel level) (s.elapse dt)

/-- The pressure filter of a head below N completes: the level becomes the candidate, and the switch event is delivered
(R28, R46, R64). -/
def State.filterDone (h : HeadId) (s : State) : State :=
  match (s.head h).iface.filter with
  | none => s
  | some f =>
    if h.val < s.cfg.n ∧ f.start + Config.filterTime ≤ s.now then
      let s' := s.updHead h fun x => { x with iface := { x.iface with pressure := f.candidate, filter := none } }
      if f.candidate then s'.updHead h (Head.switchAssert s.now s.cfg) else s'.switchRelease h
    else s

/-- PRESSURE_FILTER_EXPIRY (R28). -/
def execPressureFilterExpiry (dt head : Nat) (s : State) : Result := onHead head State.filterDone (s.elapse dt)

/-- The settle timer of an output expires: it becomes idle, and the sense of a head below N is compared with the
command in force (R22, R31, R33). -/
def State.outputSettled (o : Output) (h : HeadId) (s : State) : State :=
  if timerDue s.now ((s.head h).iface.settle.get o) then
    let s' := s.updHead h fun x => { x with iface := { x.iface with settle := x.iface.settle.put o none } }
    if h.val < s.cfg.n ∧ (s.head h).sense.get o ≠ (s.head h).iface.cmd.get o then s'.readbackFault h else s'
  else s

/-- VALVE_SETTLE_EXPIRY (R31). -/
def execValveSettleExpiry (dt head : Nat) (out : Output) (s : State) : Result :=
  onHead head (State.outputSettled out) (s.elapse dt)

/-- A new level on a coil sense input: with the settle timer of a head below N idle, a level that differs from the
command is a readback fault (R22, R32, R33). -/
def State.senseLevel (o : Output) (level : Bool) (h : HeadId) (s : State) : State :=
  if (s.head h).sense.get o = level then s
  else
    let s' := s.updHead h fun x => { x with sense := x.sense.put o level }
    if h.val < s.cfg.n ∧ (s.head h).iface.settle.get o = none ∧ level ≠ (s.head h).iface.cmd.get o then
      s'.readbackFault h
    else s'

/-- COIL_SENSE_CHANGE (R32). -/
def execCoilSenseChange (dt head : Nat) (out : Output) (level : Bool) (s : State) : Result :=
  onHead head (State.senseLevel out level) (s.elapse dt)

/-- ESTOP_CHANGE: the level, and HALT entry at a change to ASSERTED (R34, R175). -/
def execEstopChange (dt : Nat) (level : Bool) (s : State) : Result :=
  let s' := { s.elapse dt with estop := level }
  .next (if s.estop = false ∧ level = true then s'.enterHalt else s')

/-- NO_FLOW_EXPIRY (R50). -/
def execNoFlowExpiry (dt head : Nat) (s : State) : Result :=
  onHead head (fun h x => x.updHead h (Head.onNoFlow x.now x.cfg)) (s.elapse dt)

/-- HOLD_EXPIRY (R55). -/
def execHoldExpiry (dt head : Nat) (s : State) : Result :=
  onHead head (fun h x => x.updHead h (Head.onHold x.now x.cfg)) (s.elapse dt)

/-- SETTLE_TIMER_EXPIRY (R58). -/
def execSettleTimerExpiry (dt head : Nat) (s : State) : Result :=
  onHead head (fun h x => x.updHead h (Head.onSettled x.now x.cfg)) (s.elapse dt)

/-- The snift timer of a head expires: DISCHARGE, which may complete a DRAIN (R60, R174). -/
def State.sniftDone (h : HeadId) (s : State) : State :=
  if (s.head h).seq.state = .snift ∧ timerDue s.now (s.head h).seq.sniftTimer then
    (s.updHead h fun x =>
      ({ x with seq := { x.seq with sniftTimer := none } }).enter s.now s.cfg .discharge).drainCheck
  else s

/-- SNIFT_TIMER_EXPIRY (R60). -/
def execSniftTimerExpiry (dt head : Nat) (s : State) : Result := onHead head State.sniftDone (s.elapse dt)

end Sys2Proof.Machine
end

