-- ==== Sys2Proof/Machine/HeadRequests.lean ====
section
/-! DEFINITION. The head requests (chapter 5): the meanings of HEAD_READ, HEAD_CAL_WRITE, HEAD_TRIM_SET,
HEAD_LEAD_SET, HEAD_BLOCK, HEAD_RELEASE and HEAD_STATS_CLEAR. -/

namespace Sys2Proof.Machine

/-- The state with a head's table record changed. -/
def State.updEntry (s : State) (h : HeadId) (f : HeadRecord → HeadRecord) : State :=
  s.updHead h fun x => { x with entry := f x.entry }

/-- A head request: the head number is checked before any other operand, and one of N or above is refused with
BAD_VALUE (R94). -/
def onHeadOperand (ops : List Byte) (s : State) (serve : HeadId → Response × State) : Response × State :=
  match headOf s.cfg.n (fieldAt ops 0 1) with
  | none => (bare .badValue, s)
  | some h => serve h

/-- HEAD_READ: section 0 without a section operand (R114, R203, R205). -/
def serveHeadRead (ops : List Byte) (s : State) : Response × State :=
  onHeadOperand ops s fun h =>
    let part := if ops.length = 2 then fieldAt ops 1 1 else 0
    if part = 0 then (⟨.ok, headStateBytes h (s.head h)⟩, s)
    else if part = 1 then (⟨.ok, headStatsBytes h (s.head h)⟩, s)
    else (bare .badValue, s)

/-- HEAD_READ. -/
def execHeadRead (dt : Nat) (port : Port) (s : State) : Result :=
  .next ((s.elapse dt).complete port .headRead Request.headRead.lengths serveHeadRead)

/-- HEAD_CAL_WRITE (R103). -/
def serveHeadCalWrite (ops : List Byte) (s : State) : Response × State :=
  onHeadOperand ops s fun h =>
    let q := fieldAt ops 1 4
    if 2000 ≤ q ∧ q ≤ 100000 then
      (⟨.ok, leBytes 4 q ++ leBytes 2 ((s.head h).entry.epoch + 1).toNat⟩,
        s.updEntry h fun e => { e with q := q, epoch := e.epoch + 1 })
    else (bare .badValue, s)

/-- HEAD_CAL_WRITE. -/
def execHeadCalWrite (dt : Nat) (s : State) : Result :=
  .next ((s.elapse dt).complete .line .headCalWrite Request.headCalWrite.lengths serveHeadCalWrite)

/-- HEAD_TRIM_SET (R104). -/
def serveHeadTrimSet (ops : List Byte) (s : State) : Response × State :=
  onHeadOperand ops s fun h =>
    match flagOf (fieldAt ops 3 1) with
    | none => (bare .badValue, s)
    | some frozen =>
      let trim := clampTrim s.tuning.trimLimit (signedAt ops 1)
      (⟨.ok, leSigned trim ++ leBytes 1 (flagCode frozen) ++ leBytes 2 ((s.head h).entry.epoch + 1).toNat⟩,
        s.updEntry h fun e => { e with trim := trim, frozen := frozen, epoch := e.epoch + 1 })

/-- HEAD_TRIM_SET. -/
def execHeadTrimSet (dt : Nat) (s : State) : Result :=
  .next ((s.elapse dt).complete .line .headTrimSet Request.headTrimSet.lengths serveHeadTrimSet)

/-- HEAD_LEAD_SET (R106). -/
def serveHeadLeadSet (ops : List Byte) (s : State) : Response × State :=
  onHeadOperand ops s fun h =>
    let l16 := min (fieldAt ops 1 2) 4080
    (⟨.ok, leBytes 2 l16⟩, s.updEntry h fun e => { e with l16 := l16 })

/-- HEAD_LEAD_SET. -/
def execHeadLeadSet (dt : Nat) (s : State) : Result :=
  .next ((s.elapse dt).complete .line .headLeadSet Request.headLeadSet.lengths serveHeadLeadSet)

/-- HEAD_BLOCK (R95). -/
def serveHeadBlock (ops : List Byte) (s : State) : Response × State :=
  onHeadOperand ops s fun h => (bare .ok, s.updEntry h fun e => { e with service := .blocked })

/-- HEAD_BLOCK. -/
def execHeadBlock (dt : Nat) (s : State) : Result :=
  .next ((s.elapse dt).complete .line .headBlock Request.headBlock.lengths serveHeadBlock)

/-- HEAD_RELEASE (R96). -/
def serveHeadRelease (ops : List Byte) (s : State) : Response × State :=
  onHeadOperand ops s fun h => (bare .ok, s.updEntry h HeadRecord.released)

/-- HEAD_RELEASE. -/
def execHeadRelease (dt : Nat) (s : State) : Result :=
  .next ((s.elapse dt).complete .line .headRelease Request.headRelease.lengths serveHeadRelease)

/-- HEAD_STATS_CLEAR: the record's statistics, and the head's glitch counter in the interface (R112). -/
def serveHeadStatsClear (ops : List Byte) (s : State) : Response × State :=
  onHeadOperand ops s fun h =>
    (bare .ok, s.updHead h fun x =>
      { x with entry := x.entry.statsCleared, iface := { x.iface with glitches := 0 } })

/-- HEAD_STATS_CLEAR. -/
def execHeadStatsClear (dt : Nat) (s : State) : Result :=
  .next ((s.elapse dt).complete .line .headStatsClear Request.headStatsClear.lengths serveHeadStatsClear)

end Sys2Proof.Machine
end

