-- ==== Sys2Proof/Machine/TraceRequests.lean ====
section
/-! DEFINITION. The trace queue requests (chapter 7) and the correction unit (chapter 8): the meanings of
TRACE_STATUS, TRACE_NEXT, TRACE_FIND, TRACE_REWIND, TRACE_CLEAR, SERIAL_SET and LEVEL_REPORT. -/

namespace Sys2Proof.Machine

/-- TRACE_STATUS (R151). -/
def serveTraceStatus (_ops : List Byte) (s : State) : Response × State := (⟨.ok, traceStatusBytes s⟩, s)

/-- TRACE_STATUS. -/
def execTraceStatus (dt : Nat) (port : Port) (s : State) : Result :=
  .next ((s.elapse dt).complete port .traceStatus Request.traceStatus.lengths serveTraceStatus)

/-- TRACE_NEXT (R148). -/
def serveTraceNext (p : Port) (_ops : List Byte) (s : State) : Response × State :=
  match s.queue.nextFor p with
  | none => (bare .empty, s)
  | some r => (⟨.ok, recordBytes r⟩, { s with queue := s.queue.setCursor p (r.seq + 1) })

/-- TRACE_NEXT. -/
def execTraceNext (dt : Nat) (port : Port) (s : State) : Result :=
  .next ((s.elapse dt).complete port .traceNext Request.traceNext.lengths (serveTraceNext port))

/-- The serial operand. -/
def serialOperand (ops : List Byte) : U32 := BitVec.ofNat 32 (fieldAt ops 0 4)

/-- TRACE_FIND (R150). -/
def serveTraceFind (ops : List Byte) (s : State) : Response × State :=
  match s.queue.find (serialOperand ops) with
  | none => (bare .notFound, s)
  | some r => (⟨.ok, recordBytes r⟩, s)

/-- TRACE_FIND. -/
def execTraceFind (dt : Nat) (port : Port) (s : State) : Result :=
  .next ((s.elapse dt).complete port .traceFind Request.traceFind.lengths serveTraceFind)

/-- TRACE_REWIND (R149). -/
def serveTraceRewind (p : Port) (_ops : List Byte) (s : State) : Response × State :=
  (bare .ok, { s with queue := s.queue.setCursor p s.queue.oldestSeq })

/-- TRACE_REWIND. -/
def execTraceRewind (dt : Nat) (port : Port) (s : State) : Result :=
  .next ((s.elapse dt).complete port .traceRewind Request.traceRewind.lengths (serveTraceRewind port))

/-- TRACE_CLEAR (R144). -/
def serveTraceClear (_ops : List Byte) (s : State) : Response × State :=
  (⟨.ok, leBytes 2 s.queue.held.length⟩, { s with queue := s.queue.clear })

/-- TRACE_CLEAR. -/
def execTraceClear (dt : Nat) (s : State) : Result :=
  .next ((s.elapse dt).complete .line .traceClear Request.traceClear.lengths serveTraceClear)

/-- SERIAL_SET (R152). -/
def serveSerialSet (ops : List Byte) (s : State) : Response × State :=
  if s.mode ≠ .setup then (bare .wrongMode, s)
  else if serialOperand ops = 0 then (bare .badValue, s)
  else if s.queue.held ≠ [] then (bare .inUse, s)
  else (⟨.ok, leBytes 4 (serialOperand ops).toNat⟩, { s with queue := { s.queue with nextSerial := serialOperand ops } })

/-- SERIAL_SET. -/
def execSerialSet (dt : Nat) (s : State) : Result :=
  .next ((s.elapse dt).complete .line .serialSet Request.serialSet.lengths serveSerialSet)

/-! ## Level reports (chapter 8) -/

/-- The deviation that means no valid measurement (R154). -/
def noMeasurement : Int := -32768

/-- Why a lookup found no record (R156). -/
def lookupError (q : TraceQueue) (serial : U32) : ReportError :=
  let age := (q.lastIssued - serial).toNat
  if 2 ^ 31 ≤ age then .notYet
  else match q.serials.head? with
    | none => .tooLate
    | some oldest => if (q.lastIssued - oldest).toNat < age then .tooLate else .notFound

/-- The status of a report error (R157). -/
def ReportError.status : ReportError → Status
  | .notYet => .notYet
  | .tooLate => .tooLate
  | .notFound => .notFound

/-- A record whose fill can speak for its head: outcome OK or OUT_OF_TOL (R107, R159, R165). -/
def measuredFill (o : FillOutcome) : Bool := decide (o = .ok) || decide (o = .outOfTol)

/-- The classification of a matched report: the first condition that holds (R159 to R162). -/
def classifyReport (d : RecordDraft) (deviation : Int) (e : HeadRecord) (slot : Option Recipe) : Classification :=
  if deviation = noMeasurement then .unmeasured
  else if measuredFill d.outcome = false ∨ d.flags.suspect = true ∨ d.flags.resumed = true then .noLearn
  else match slot with
    | none => .noLearn
    | some r =>
      if d.epoch ≠ e.epoch then .stale
      else if e.frozen then .frozen
      else if deviation.natAbs ≤ r.deadBand then .deadBand
      else if r.grossLimit < deviation.natAbs then .gross
      else .applied

/-- The trim step of an applied report (R163). -/
def trimStep (deviation : Int) (vT gain : Nat) : Int := roundHalfAway (deviation * 10000) (vT * 2 ^ gain)

/-- A head's record after a matched report (R164 to R166): the trim and the epoch of an APPLIED one, the last deviation
of a valid measurement on a measured fill, and the report counter. -/
def HeadRecord.reported (c : Classification) (d : RecordDraft) (deviation : Int) (gain trimLimit : Nat)
    (e : HeadRecord) : HeadRecord :=
  { e with
    trim := if c = .applied then clampTrim trimLimit (e.trim + trimStep deviation d.vT gain) else e.trim
    epoch := if c = .applied then e.epoch + 1 else e.epoch
    lastDeviation :=
      if deviation ≠ noMeasurement ∧ measuredFill d.outcome = true then some deviation else e.lastDeviation
    stats :=
      if c = .applied then { e.stats with reportsApplied := satInc e.stats.reportsApplied }
      else { e.stats with reportsNotApplied := satInc e.stats.reportsNotApplied } }

/-- LEVEL_REPORT on a serial other than 0: matched, retired, classified and applied, or a report error
(R156 to R167). -/
def State.report (serial : U32) (deviation : Int) (s : State) : Response × State :=
  match s.queue.find serial with
  | none =>
    (bare (lookupError s.queue serial).status, { s with reportErrors := satInc s.reportErrors })
  | some rec =>
    let d := rec.body
    let slot := s.recipes[d.slot.val]
    let e := (s.head d.head).entry
    let c := classifyReport d deviation e slot
    let e' := e.reported c d deviation (match slot with | some r => r.trimGain | none => 0) s.tuning.trimLimit
    (⟨.ok, leBytes 1 c.code ++ leBytes 1 d.head.val ++ leSigned e'.trim⟩,
      ({ s with queue := s.queue.retire serial }).updEntry d.head fun _ => e')

/-- LEVEL_REPORT: a serial of 0 is refused (R154). -/
def serveLevelReport (ops : List Byte) (s : State) : Response × State :=
  if serialOperand ops = 0 then (bare .badValue, s) else s.report (serialOperand ops) (signedAt ops 4)

/-- LEVEL_REPORT (R155). -/
def execLevelReport (dt : Nat) (s : State) : Result :=
  .next ((s.elapse dt).complete .inspection .levelReport Request.levelReport.lengths serveLevelReport)

end Sys2Proof.Machine
end

