-- ==== Sys2Proof/Machine/Dispatch.lean ====
section
/-! DEFINITION. One arm per command: each calls its meaning. -/

namespace Sys2Proof.Machine

def exec (i : Instr) (s : State) : Host.Outcome State Fault Refusal :=
  match i with
  | .powerOnReset dt => Sys2Proof.Machine.execPowerOnReset dt s
  | .encoderCount dt a b infeed => Sys2Proof.Machine.execEncoderCount dt a b infeed s
  | .indexArrival dt infeed => Sys2Proof.Machine.execIndexArrival dt infeed s
  | .stopTimeout dt => Sys2Proof.Machine.execStopTimeout dt s
  | .meterPulse dt head => Sys2Proof.Machine.execMeterPulse dt head s
  | .psPinChange dt head level => Sys2Proof.Machine.execPsPinChange dt head level s
  | .pressureFilterExpiry dt head => Sys2Proof.Machine.execPressureFilterExpiry dt head s
  | .valveSettleExpiry dt head out => Sys2Proof.Machine.execValveSettleExpiry dt head out s
  | .coilSenseChange dt head out level => Sys2Proof.Machine.execCoilSenseChange dt head out level s
  | .estopChange dt level => Sys2Proof.Machine.execEstopChange dt level s
  | .noFlowExpiry dt head => Sys2Proof.Machine.execNoFlowExpiry dt head s
  | .holdExpiry dt head => Sys2Proof.Machine.execHoldExpiry dt head s
  | .settleTimerExpiry dt head => Sys2Proof.Machine.execSettleTimerExpiry dt head s
  | .sniftTimerExpiry dt head => Sys2Proof.Machine.execSniftTimerExpiry dt head s
  | .attnPulseEnd dt port => Sys2Proof.Machine.execAttnPulseEnd dt port s
  | .frameEnd dt port bits => Sys2Proof.Machine.execFrameEnd dt port bits s
  | .nop dt port => Sys2Proof.Machine.execNop dt port s
  | .identify dt port => Sys2Proof.Machine.execIdentify dt port s
  | .status dt port => Sys2Proof.Machine.execStatus dt port s
  | .eventsRead dt port => Sys2Proof.Machine.execEventsRead dt port s
  | .eventsMask dt port => Sys2Proof.Machine.execEventsMask dt port s
  | .modeProduce dt => Sys2Proof.Machine.execModeProduce dt s
  | .modeDrain dt => Sys2Proof.Machine.execModeDrain dt s
  | .modeHalt dt => Sys2Proof.Machine.execModeHalt dt s
  | .modeResume dt => Sys2Proof.Machine.execModeResume dt s
  | .modeSetup dt => Sys2Proof.Machine.execModeSetup dt s
  | .restart dt => Sys2Proof.Machine.execRestart dt s
  | .configWrite dt => Sys2Proof.Machine.execConfigWrite dt s
  | .configRead dt => Sys2Proof.Machine.execConfigRead dt s
  | .tuningWrite dt => Sys2Proof.Machine.execTuningWrite dt s
  | .tuningRead dt => Sys2Proof.Machine.execTuningRead dt s
  | .angleRearm dt => Sys2Proof.Machine.execAngleRearm dt s
  | .pocketsClear dt => Sys2Proof.Machine.execPocketsClear dt s
  | .recipeWrite dt => Sys2Proof.Machine.execRecipeWrite dt s
  | .recipeRead dt => Sys2Proof.Machine.execRecipeRead dt s
  | .recipeErase dt => Sys2Proof.Machine.execRecipeErase dt s
  | .stackPush dt => Sys2Proof.Machine.execStackPush dt s
  | .stackPop dt => Sys2Proof.Machine.execStackPop dt s
  | .stackReplace dt => Sys2Proof.Machine.execStackReplace dt s
  | .stackRead dt => Sys2Proof.Machine.execStackRead dt s
  | .headRead dt port => Sys2Proof.Machine.execHeadRead dt port s
  | .headCalWrite dt => Sys2Proof.Machine.execHeadCalWrite dt s
  | .headTrimSet dt => Sys2Proof.Machine.execHeadTrimSet dt s
  | .headLeadSet dt => Sys2Proof.Machine.execHeadLeadSet dt s
  | .headBlock dt => Sys2Proof.Machine.execHeadBlock dt s
  | .headRelease dt => Sys2Proof.Machine.execHeadRelease dt s
  | .headStatsClear dt => Sys2Proof.Machine.execHeadStatsClear dt s
  | .traceStatus dt port => Sys2Proof.Machine.execTraceStatus dt port s
  | .traceNext dt port => Sys2Proof.Machine.execTraceNext dt port s
  | .traceFind dt port => Sys2Proof.Machine.execTraceFind dt port s
  | .traceRewind dt port => Sys2Proof.Machine.execTraceRewind dt port s
  | .traceClear dt => Sys2Proof.Machine.execTraceClear dt s
  | .serialSet dt => Sys2Proof.Machine.execSerialSet dt s
  | .levelReport dt => Sys2Proof.Machine.execLevelReport dt s
  | .selectFall dt port => Sys2Proof.Machine.execSelectFall dt port s

end Sys2Proof.Machine
end

