-- ==== Sys2Proof/WellFormed.lean ====
section
/-! DEFINITION. Which commands are well formed: the one operand with a bound that its type does not carry is a
head position, of which the part has 128 (R21: "every head from 0 to 127"). -/

namespace Sys2Proof

/-- The head position a command names, where it names one. -/
def Instr.head? : Instr → Option Nat
  | .powerOnReset _ => none
  | .encoderCount _ _ _ _ => none
  | .indexArrival _ _ => none
  | .stopTimeout _ => none
  | .meterPulse _ h => some h
  | .psPinChange _ h _ => some h
  | .pressureFilterExpiry _ h => some h
  | .valveSettleExpiry _ h _ => some h
  | .coilSenseChange _ h _ _ => some h
  | .estopChange _ _ => none
  | .noFlowExpiry _ h => some h
  | .holdExpiry _ h => some h
  | .settleTimerExpiry _ h => some h
  | .sniftTimerExpiry _ h => some h
  | .attnPulseEnd _ _ => none
  | .frameEnd _ _ _ => none
  | .nop _ _ => none
  | .identify _ _ => none
  | .status _ _ => none
  | .eventsRead _ _ => none
  | .eventsMask _ _ => none
  | .modeProduce _ => none
  | .modeDrain _ => none
  | .modeHalt _ => none
  | .modeResume _ => none
  | .modeSetup _ => none
  | .restart _ => none
  | .configWrite _ => none
  | .configRead _ => none
  | .tuningWrite _ => none
  | .tuningRead _ => none
  | .angleRearm _ => none
  | .pocketsClear _ => none
  | .recipeWrite _ => none
  | .recipeRead _ => none
  | .recipeErase _ => none
  | .stackPush _ => none
  | .stackPop _ => none
  | .stackReplace _ => none
  | .stackRead _ => none
  | .headRead _ _ => none
  | .headCalWrite _ => none
  | .headTrimSet _ => none
  | .headLeadSet _ => none
  | .headBlock _ => none
  | .headRelease _ => none
  | .headStatsClear _ => none
  | .traceStatus _ _ => none
  | .traceNext _ _ => none
  | .traceFind _ _ => none
  | .traceRewind _ _ => none
  | .traceClear _ => none
  | .serialSet _ => none
  | .levelReport _ => none
  | .selectFall _ _ => none

/-- A command is well formed when the head it names, if any, is one of the 128 positions. -/
def Instr.wellFormed (i : Instr) : Bool :=
  match i.head? with
  | some h => decide (h < 128)
  | none => true

end Sys2Proof
end

