-- ==== Sys2Proof/Safety.lean ====
section
/-! DEFINITION. What the statements about the part are made of: the request a command completes, the laws the manual
states of the whole machine, and the classes of state a statement names. -/

namespace Sys2Proof.Machine

/-- The time a command carries. -/
def elapsedOf : Instr → Nat
  | .powerOnReset dt => dt
  | .encoderCount dt _ _ _ => dt
  | .indexArrival dt _ => dt
  | .stopTimeout dt => dt
  | .meterPulse dt _ => dt
  | .psPinChange dt _ _ => dt
  | .pressureFilterExpiry dt _ => dt
  | .valveSettleExpiry dt _ _ => dt
  | .coilSenseChange dt _ _ _ => dt
  | .estopChange dt _ => dt
  | .noFlowExpiry dt _ => dt
  | .holdExpiry dt _ => dt
  | .settleTimerExpiry dt _ => dt
  | .sniftTimerExpiry dt _ => dt
  | .attnPulseEnd dt _ => dt
  | .frameEnd dt _ _ => dt
  | .nop dt _ => dt
  | .identify dt _ => dt
  | .status dt _ => dt
  | .eventsRead dt _ => dt
  | .eventsMask dt _ => dt
  | .modeProduce dt => dt
  | .modeDrain dt => dt
  | .modeHalt dt => dt
  | .modeResume dt => dt
  | .modeSetup dt => dt
  | .restart dt => dt
  | .configWrite dt => dt
  | .configRead dt => dt
  | .tuningWrite dt => dt
  | .tuningRead dt => dt
  | .angleRearm dt => dt
  | .pocketsClear dt => dt
  | .recipeWrite dt => dt
  | .recipeRead dt => dt
  | .recipeErase dt => dt
  | .stackPush dt => dt
  | .stackPop dt => dt
  | .stackReplace dt => dt
  | .stackRead dt => dt
  | .headRead dt _ => dt
  | .headCalWrite dt => dt
  | .headTrimSet dt => dt
  | .headLeadSet dt => dt
  | .headBlock dt => dt
  | .headRelease dt => dt
  | .headStatsClear dt => dt
  | .traceStatus dt _ => dt
  | .traceNext dt _ => dt
  | .traceFind dt _ => dt
  | .traceRewind dt _ => dt
  | .traceClear dt => dt
  | .serialSet dt => dt
  | .levelReport dt => dt
  | .selectFall dt _ => dt

/-- The request whose processing completion a command is, with its port (R195); LEVEL_REPORT is taken on the
inspection port alone, and a command without a port operand on the line port (R196). -/
def completes : Instr → Option (Port × Request)
  | .powerOnReset _ => none
  | .encoderCount _ _ _ _ => none
  | .indexArrival _ _ => none
  | .stopTimeout _ => none
  | .meterPulse _ _ => none
  | .psPinChange _ _ _ => none
  | .pressureFilterExpiry _ _ => none
  | .valveSettleExpiry _ _ _ => none
  | .coilSenseChange _ _ _ _ => none
  | .estopChange _ _ => none
  | .noFlowExpiry _ _ => none
  | .holdExpiry _ _ => none
  | .settleTimerExpiry _ _ => none
  | .sniftTimerExpiry _ _ => none
  | .attnPulseEnd _ _ => none
  | .frameEnd _ _ _ => none
  | .nop _ p => some (p, .nop)
  | .identify _ p => some (p, .identify)
  | .status _ p => some (p, .status)
  | .eventsRead _ p => some (p, .eventsRead)
  | .eventsMask _ p => some (p, .eventsMask)
  | .modeProduce _ => some (.line, .modeProduce)
  | .modeDrain _ => some (.line, .modeDrain)
  | .modeHalt _ => some (.line, .modeHalt)
  | .modeResume _ => some (.line, .modeResume)
  | .modeSetup _ => some (.line, .modeSetup)
  | .restart _ => some (.line, .restart)
  | .configWrite _ => some (.line, .configWrite)
  | .configRead _ => some (.line, .configRead)
  | .tuningWrite _ => some (.line, .tuningWrite)
  | .tuningRead _ => some (.line, .tuningRead)
  | .angleRearm _ => some (.line, .angleRearm)
  | .pocketsClear _ => some (.line, .pocketsClear)
  | .recipeWrite _ => some (.line, .recipeWrite)
  | .recipeRead _ => some (.line, .recipeRead)
  | .recipeErase _ => some (.line, .recipeErase)
  | .stackPush _ => some (.line, .stackPush)
  | .stackPop _ => some (.line, .stackPop)
  | .stackReplace _ => some (.line, .stackReplace)
  | .stackRead _ => some (.line, .stackRead)
  | .headRead _ p => some (p, .headRead)
  | .headCalWrite _ => some (.line, .headCalWrite)
  | .headTrimSet _ => some (.line, .headTrimSet)
  | .headLeadSet _ => some (.line, .headLeadSet)
  | .headBlock _ => some (.line, .headBlock)
  | .headRelease _ => some (.line, .headRelease)
  | .headStatsClear _ => some (.line, .headStatsClear)
  | .traceStatus _ p => some (p, .traceStatus)
  | .traceNext _ p => some (p, .traceNext)
  | .traceFind _ p => some (p, .traceFind)
  | .traceRewind _ p => some (p, .traceRewind)
  | .traceClear _ => some (.line, .traceClear)
  | .serialSet _ => some (.line, .serialSet)
  | .levelReport _ => some (.inspection, .levelReport)
  | .selectFall _ _ => none

/-- Port `p` holds request `r` with these operand bytes in its slot. -/
def State.holds (s : State) (p : Port) (r : Request) (ops : List Byte) : Prop := (s.port p).slot = some ⟨r, ops⟩

/-! ## Laws of the manual -/

/-- The recipe stack holds between 1 and the maximum depth of entries, and every entry names a valid slot (R124). -/
def StackSound (s : State) : Prop :=
  (s.cfg.depth = 2 ∨ s.cfg.depth = 6) ∧ 1 ≤ s.stack.entries.length ∧ s.stack.entries.length ≤ s.cfg.depth ∧
  ∀ e ∈ s.stack.entries, s.recipes[e.slot.val].isSome = true

/-- created = held + matched + expired + evicted + cleared + lost, modulo 2³² (R145), and at most 256 records are held
(R137). -/
def TraceAccounted (s : State) : Prop :=
  s.queue.created = BitVec.ofNat 32 s.queue.held.length + s.queue.matched + s.queue.expired + s.queue.evicted +
    s.queue.cleared + s.queue.lost ∧
  s.queue.held.length ≤ 256

/-- How many serials have been issued after `x`, with `next` the next one: serials run from 1 to 2³² − 1 (R136). -/
def serialAge (next x : U32) : Nat := (next.toNat + 4294967294 - x.toNat) % 4294967295

/-- The held records stand in ascending seq, by their distances behind the newest, and those that carry a serial in
ascending serial, so that no two carry the same; no serial is 0 (R136, R137). -/
def HeldInOrder (s : State) : Prop :=
  (s.queue.held.Pairwise fun older newer => (s.queue.created - newer.seq).toNat < (s.queue.created - older.seq).toNat) ∧
  ((s.queue.held.filterMap TraceRecord.serial).Pairwise fun older newer =>
    serialAge s.queue.nextSerial newer < serialAge s.queue.nextSerial older) ∧
  (s.queue.nextSerial ≠ 0 ∧ ∀ x ∈ s.queue.held.filterMap TraceRecord.serial, x ≠ 0)

/-- Fewer than 2³¹ records, and fewer than 2³¹ serials, have been given since any held record was: by expiry the queue
never comes near it (R137, R147). -/
def HeldRecently (s : State) : Prop :=
  (∀ r ∈ s.queue.held, (s.queue.created - r.seq).toNat < 2147483648) ∧
  ∀ x ∈ s.queue.held.filterMap TraceRecord.serial, serialAge s.queue.nextSerial x < 2147483648

/-- Every head's trim lies within plus and minus the trim limit, which never exceeds 500 (R104). -/
def TrimsWithinLimit (s : State) : Prop :=
  s.tuning.trimLimit ≤ 500 ∧ ∀ h, (s.head h).entry.trim.natAbs ≤ s.tuning.trimLimit

/-- Every head's lead lies between 0 and 4080 (R88). -/
def LeadsBounded (s : State) : Prop := ∀ h, (s.head h).entry.l16 ≤ 4080

/-- Every head's outcome history holds at most 8 entries (R100). -/
def HistoriesShort (s : State) : Prop := ∀ h, (s.head h).entry.history.length ≤ 8

/-- Every head in IN_SERVICE has a fault count below the block threshold (R98), which lies from 1 to 8. -/
def ServiceBelowThreshold (s : State) : Prop :=
  (1 ≤ s.tuning.blockThreshold ∧ s.tuning.blockThreshold ≤ 8) ∧
  ∀ h, (s.head h).entry.service = .inService → (s.head h).entry.faults < s.tuning.blockThreshold

/-- The four commands of every head follow its fill state (R30). -/
def ValvesFollow (s : State) : Prop := ∀ h, (s.head h).iface.cmd = outputsOf (s.head h).seq.state

/-- ARMED through SETTLE: the states a fill under way stands in (section 9.2). -/
def FillState.underWay : FillState → Bool
  | .armed | .pressurizing | .pressurized | .fillFast | .fillSlow | .held | .settle => true
  | .idle | .snift | .discharge | .pass => false

/-- In SETUP and HALT no head is in ARMED through SETTLE (R66), and heads at or above N are IDLE (R37). -/
def StoppedInSetupAndHalt (s : State) : Prop :=
  (s.mode = .setup ∨ s.mode = .halt → ∀ h, (s.head h).seq.state.underWay = false) ∧
  ∀ h : HeadId, s.cfg.n ≤ h.val → (s.head h).seq.state = .idle

/-- Every recipe held is acceptable (R116, R117), and every head's Q and t lie in their ranges (R77). -/
def StoresInRange (s : State) : Prop :=
  (∀ slot : Slot, ∀ r, s.recipes[slot.val] = some r → r.acceptable = true) ∧
  (∀ h, 2000 ≤ (s.head h).entry.q ∧ (s.head h).entry.q ≤ 100000) ∧ TrimsWithinLimit s

/-- The chain every frozen plan satisfies (R83). -/
def Plan.sound (p : Plan) : Prop :=
  (1 ≤ p.pClose ∧ p.pClose ≤ p.pTarget ∧ p.pTarget ≤ 65535) ∧ p.pSwitch ≤ p.pClose

/-- Every plan a head holds is sound (R83), and the stores it was formed from are in range. -/
def PlansSound (s : State) : Prop := StoresInRange s ∧ ∀ h, ∀ p, (s.head h).seq.plan = some p → p.sound

/-- Until its close a cycle's fill count stays below P_close, and after it never passes it (R48, R85); before the fill
opens the count is 0 (R42). -/
def FillsMeetTheirClose (s : State) : Prop :=
  ∀ h, ∀ p, (s.head h).seq.plan = some p →
    (1 ≤ p.pClose ∧ p.pClose ≤ 65535) ∧ (s.head h).seq.fillCount.toNat ≤ p.pClose ∧
    ((s.head h).seq.state = .fillFast ∨ (s.head h).seq.state = .fillSlow ∨ (s.head h).seq.state = .held →
      (s.head h).seq.fillCount.toNat < p.pClose) ∧
    ((s.head h).seq.state = .armed ∨ (s.head h).seq.state = .pressurizing ∨ (s.head h).seq.state = .pressurized →
      (s.head h).seq.fillCount = 0)

/-- On each port a BUSY slot stands beside an empty buffer (R189). -/
def PortsExclusive (s : State) : Prop := ∀ p, (s.port p).slot.isSome = true → (s.port p).buffer = none

/-- Each port's status and mask hold bits of its own kinds alone (R201, R204). -/
def EventsOwn (s : State) : Prop :=
  ∀ p, (s.port p).events &&& ~~~keptBits p = 0 ∧ (s.port p).mask &&& ~~~keptBits p = 0

/-- The tracker's ranges (section 1.1): the angle below T, the debt at most floor(T/4), REVERSING exactly while there
is a debt, and T from 1024 to 32768. -/
def TrackerInRange (s : State) : Prop :=
  (1024 ≤ s.cfg.t ∧ s.cfg.t ≤ 32768) ∧ s.tracker.angle < s.cfg.t ∧ s.tracker.debt ≤ s.cfg.t / 4 ∧
  (s.tracker.motion = .reversing ↔ 0 < s.tracker.debt)

/-- The meter factor and the trim of a head, whose every change moves the epoch (section 5.5). -/
def calibration (e : HeadRecord) : Nat × Int := (e.q, e.trim)

/-! ## The rows and cases of the manual's tables -/

/-- The rows of R2 that count forward: the levels of ENCA and ENCB before and after. -/
def forwardRows : List ((Bool × Bool) × (Bool × Bool)) :=
  [((false, false), (true, false)), ((true, false), (true, true)), ((true, true), (false, true)),
   ((false, true), (false, false))]

/-- The rows of R2 that count in reverse. -/
def reverseRows : List ((Bool × Bool) × (Bool × Bool)) :=
  [((false, false), (false, true)), ((false, true), (true, true)), ((true, true), (true, false)),
   ((true, false), (false, false))]

/-- A cursor after a removal that has left `held`, with `newest` the seq counter: it is brought up to the oldest held
record, or past the newest where none is held, and otherwise stays (R147). -/
def broughtUp (newest : U32) (held : List TraceRecord) (cursor : U32) : U32 :=
  match held with
  | [] => newest + 1
  | oldest :: _ => if (newest - oldest.seq).toNat + 1 < (newest + 1 - cursor).toNat then oldest.seq else cursor

/-- Both resets, each where it is taken, leave a state that stands in relation `P` to the state at the reset: POWER_ON_RESET
in every state, RESTART at the completion of its request in SETUP and HALT (R184). -/
def EitherReset (P : State → State → Prop) : Prop :=
  ∀ (dt : Nat) (s : State),
    (∃ t, exec (.powerOnReset dt) s = .next t ∧ P (s.elapse dt) t) ∧
    (s.holds .line .restart [] → s.mode = .setup ∨ s.mode = .halt →
      ∃ t, exec (.restart dt) s = .next t ∧ P (s.elapse dt) t)

/-- The levels on the input pins, which no command but those of the pins changes. -/
def State.pinsKept (s t : State) : Prop :=
  t.encA = s.encA ∧ t.encB = s.encB ∧ t.infeed = s.infeed ∧ t.estop = s.estop ∧
  ∀ h, (t.head h).psPin = (s.head h).psPin ∧ (t.head h).sense = (s.head h).sense

end Sys2Proof.Machine
end

