-- ==== Sys2Proof/Certificates/Slice0/Obligations.lean ====
section
/-! DEFINITION. The statements about the OS7128 that are put to the provers, in the order of the manual's chapters.
A statement that gives a command's result as an equation says with it what the command leaves unchanged. -/

open Sys2Proof Sys2Proof.Machine

/-! ## Commands and requests -/

/-- A step takes the command at the front of the queue and executes it with the rest waiting; an empty queue idles
(the model's choice, notes/assumptions/2.md). -/
def Obligations.StepTakesTheFrontCommand : Prop :=
  (∀ (c : Instr) (rest : List Instr) (s : State),
    step { s with pending := c :: rest } = exec c { s with pending := rest }) ∧
  ∀ s : State, s.pending = [] → step s = .next s

/-- Every command on one of the 128 head positions, and every command that names none, completes, lets its own time
pass (the model's time base, notes/assumptions/1.md) and leaves the queue alone; one that names a position the part
does not have stops (the model's choice, notes/assumptions/9.md). -/
def Obligations.WellFormedCommandsComplete : Prop :=
  ∀ (c : Instr) (s : State),
    (c.wellFormed = true →
      ∃ t, exec c s = .next t ∧ t.now = s.now + elapsedOf c ∧ t.pending = s.pending) ∧
    ∀ h, c.head? = some h → 128 ≤ h → exec c s = .fault (.noSuchHead h)

/-- A processing completion frees the slot and puts one response in the buffer, which carries no data unless it is OK;
a wrong operand length is refused and changes nothing else; with no such request in the slot nothing is completed (the
model's choice, notes/assumptions/4.md). -/
def Obligations.CompletionsAnswerAndFreeTheSlot : Prop :=
  ∀ (c : Instr) (p : Port) (r : Request), completes c = some (p, r) → ∀ s : State,
    ((∀ ops, ¬ s.holds p r ops) → exec c s = .next (s.elapse (elapsedOf c))) ∧
    ∀ ops, s.holds p r ops →
      (ops.length ∉ r.lengths → exec c s = .next ((s.elapse (elapsedOf c)).finish p (bare .badValue))) ∧
      ∃ t answer, exec c s = .next t ∧ (t.port p).slot = none ∧ (t.port p).buffer = some answer ∧
        (answer.status ≠ .ok → answer.data = [])

/-- The requests without an operand that report state change none: NOP, IDENTIFY, STATUS, CONFIG_READ, TUNING_READ,
STACK_READ and TRACE_STATUS (R195, R186, R185, R181, R128, R151); the STATUS, stack and TRACE_STATUS blocks byte by
byte, their codes, and the order of the bytes of a field, least significant first (R203, R204, chapter 11). -/
def Obligations.ReadRequestsReportAndChangeNothing : Prop :=
  (∀ (dt : Nat) (s : State),
    (∀ p, s.holds p .nop [] → exec (.nop dt p) s = .next ((s.elapse dt).finish p ⟨.ok, []⟩)) ∧
    (∀ p, s.holds p .identify [] →
      exec (.identify dt p) s = .next ((s.elapse dt).finish p ⟨.ok, [0x42, 0x50, 0x28, 0x71, 0x01]⟩)) ∧
    (∀ p, s.holds p .status [] →
      exec (.status dt p) s = .next ((s.elapse dt).finish p
        ⟨.ok, [BitVec.ofNat 8 s.mode.code, BitVec.ofNat 8 s.tracker.ref.code, BitVec.ofNat 8 s.tracker.motion.code] ++
          leBytes 4 s.tracker.revolutions.toNat ++ leBytes 4 s.tracker.speed ++ [if s.estop then 1 else 0]⟩)) ∧
    (s.holds .line .configRead [] →
      exec (.configRead dt) s = .next ((s.elapse dt).finish .line ⟨.ok, configBytes s.cfg⟩)) ∧
    (s.holds .line .tuningRead [] →
      exec (.tuningRead dt) s = .next ((s.elapse dt).finish .line ⟨.ok, tuningBytes s.tuning⟩)) ∧
    (s.holds .line .stackRead [] →
      exec (.stackRead dt) s = .next ((s.elapse dt).finish .line ⟨.ok, stackBytes s⟩)) ∧
    ∀ p, s.holds p .traceStatus [] →
      exec (.traceStatus dt p) s = .next ((s.elapse dt).finish p ⟨.ok, traceStatusBytes s⟩)) ∧
  (∀ s : State,
    stackBytes s =
      [BitVec.ofNat 8 s.cfg.depth, BitVec.ofNat 8 s.stack.entries.length] ++ leBytes 2 s.stack.spills.toNat ++
      s.stack.entries.flatMap fun e =>
        BitVec.ofNat 8 (e.slot.val + if e.count = none then 0 else 128) :: leBytes 2 (e.count.getD 0)) ∧
  (∀ s : State,
    let q := s.queue
    let serials := q.held.filterMap TraceRecord.serial
    traceStatusBytes s =
      leBytes 2 q.held.length ++ [if serials = [] then 0 else 1] ++ leBytes 4 (serials.head?.getD 0).toNat ++
      leBytes 4 (serials.getLast?.getD 0).toNat ++ leBytes 4 q.nextSerial.toNat ++
      [if s.cfg.traceMode = .hold then 1 else 0] ++ leBytes 2 s.tuning.traceThreshold ++ leBytes 4 q.created.toNat ++
      leBytes 4 q.matched.toNat ++ leBytes 4 q.expired.toNat ++ leBytes 4 q.evicted.toNat ++
      leBytes 4 q.cleared.toNat ++ leBytes 4 q.lost.toNat) ∧
  ([Mode.setup, .production, .drain, .halt].map Mode.code = [0, 1, 2, 3] ∧
    [RefState.unreferenced, .tracking, .fault].map RefState.code = [0, 1, 2] ∧
    [Motion.stopped, .running, .reversing].map Motion.code = [0, 1, 2]) ∧
  ∀ width n : Nat, (leBytes width n).length = width ∧
    ∀ i, i < width → (leBytes width n)[i]? = some (BitVec.ofNat 8 (n / 256 ^ i))

/-- The blocks of chapter 11, byte by byte, and that they read back as they were written: a configuration block, a
tuning block and a recipe record within their ranges are what their own bytes decode to. -/
def Obligations.BlocksDecodeToWhatTheyEncode : Prop :=
  (∀ c : ConfigBlock, (12 ≤ c.n ∧ c.n ≤ 128) → (1024 ≤ c.t ∧ c.t ≤ 32768) → c.tolerance ≤ 15 →
    (20 ≤ c.stopTimeout ∧ c.stopTimeout ≤ 2000) → (c.depth = 2 ∨ c.depth = 6) → (1 ≤ c.horizon ∧ c.horizon ≤ 15) →
    (1 ≤ c.spacing ∧ c.spacing ≤ 255) → (2 ≤ c.valveSettle ∧ c.valveSettle ≤ 100) →
    (1 ≤ c.holdLimit ∧ c.holdLimit ≤ 600) → configOf (configBytes c) = some c) ∧
  (∀ k : TuningBlock, k.trimLimit ≤ 500 → (1 ≤ k.blockThreshold ∧ k.blockThreshold ≤ 8) → k.suspectTurns ≤ 3 →
    k.dripLimit ≤ 255 → (1 ≤ k.traceThreshold ∧ k.traceThreshold ≤ 256) → tuningOf (tuningBytes k) = k) ∧
  (∀ (r : Recipe) (slot : Byte), r.acceptable = true → recipeOf (slot :: recipeBytes r) 1 = some r) ∧
  (∀ c : ConfigBlock, configBytes c =
    [BitVec.ofNat 8 c.n] ++ leBytes 2 c.t ++ [BitVec.ofNat 8 c.tolerance] ++ leBytes 2 c.stopTimeout ++
    [BitVec.ofNat 8 c.depth, if c.traceMode = .hold then 1 else 0, BitVec.ofNat 8 c.horizon, BitVec.ofNat 8 c.spacing,
      BitVec.ofNat 8 c.valveSettle] ++ leBytes 2 c.holdLimit) ∧
  (∀ k : TuningBlock, tuningBytes k =
    leBytes 2 k.trimLimit ++ [BitVec.ofNat 8 k.blockThreshold, BitVec.ofNat 8 k.suspectTurns,
      BitVec.ofNat 8 k.dripLimit] ++ leBytes 2 k.traceThreshold) ∧
  ∀ r : Recipe, recipeBytes r =
    leBytes 2 r.product.toNat ++ leBytes 2 r.vT ++ leBytes 2 r.vSlow ++ leBytes 2 r.tolerance ++
    [BitVec.ofNat 8 r.deadBand] ++ leBytes 2 r.grossLimit ++
    [BitVec.ofNat 8 r.trimGain, BitVec.ofNat 8 r.leadGain, BitVec.ofNat 8 r.oMax] ++ leBytes 2 r.noFlow ++
    leBytes 2 r.settle ++ leBytes 2 r.snift ++ leBytes 2 r.aPress ++ leBytes 2 r.aFill ++ leBytes 2 r.aClose ++
    leBytes 2 r.aSnift ++ leBytes 2 r.aRelease ++ [if r.resumeReject then 1 else 0]

/-! ## The resets -/

/-- What either reset makes of the tracker, the head signal interface, the sequencers and the trace queue (R1, R21,
R36, R134); both keep the levels on the input pins and the queue of commands (the model's choice,
notes/assumptions/16.md). -/
def Obligations.EitherResetClearsTheCycle : Prop :=
  EitherReset fun s t =>
    t.tracker =
      { angle := 0, debt := 0, ref := .unreferenced, slips := 0, indexMark := false, revolutions := 0,
        motion := .stopped, stopStart := s.now, revStart := s.now, timingMark := false, speed := 0 } ∧
    (∀ h,
      (t.head h).iface =
        { lastPulse := none, glitches := 0, drips := 0, pressure := (s.head h).psPin, filter := none,
          cmd := ⟨false, false, false, false⟩, settle := ⟨none, none, none, none⟩ } ∧
      (t.head h).seq =
        { state := .idle, plan := none, header := none, fillCount := 0, overrunCount := 0, fillOpened := false,
          fillClock := none, close := none, outcome := none, reason := none, resumed := false, shortSettle := false,
          sniftShort := false, settleDone := false, sniftAngle := false, noFlowTimer := none, holdTimer := none,
          settleTimer := none, sniftTimer := none }) ∧
    t.queue =
      { held := [], created := 0, nextSerial := 1, matched := 0, expired := 0, evicted := 0, cleared := 0, lost := 0,
        lineCursor := 0, inspCursor := 0 } ∧
    s.pinsKept t ∧ t.pending = s.pending ∧ ∀ p, (t.port p).events = 0

/-- What each reset makes of the head table, the recipe store, the recipe stack, the mode and the two parameter blocks
(R92, R93, R115, R124, R170). -/
def Obligations.ResetsSetTheStores : Prop :=
  let default : Recipe :=
    { product := 0, vT := 5000, vSlow := 600, tolerance := 20, deadBand := 2, grossLimit := 150, trimGain := 2,
      leadGain := 2, oMax := 40, noFlow := 150, settle := 120, snift := 180, aPress := 300, aFill := 600,
      aClose := 2700, aSnift := 2850, aRelease := 3300, resumeReject := true }
  let fresh : HeadRecord :=
    { service := .inService, q := 25000, trim := 0, frozen := false, epoch := 0, l16 := 0, faults := 0, suspect := 0,
      dripWarning := false, history := [], lastDeviation := none,
      stats := ⟨0, 0, 0, 0, 0, 0, 0, 0, 0, 0, 0, 0, 0, 0, 0, 0⟩ }
  EitherReset (fun _ t => t.stack = ⟨[⟨0, none⟩], 0⟩ ∧ t.mode = .setup) ∧
  (∀ (dt : Nat) (s : State), ∃ t, exec (.powerOnReset dt) s = .next t ∧
    (∀ h, (t.head h).entry = fresh) ∧
    (t.recipes[0] = some default ∧ ∀ slot : Slot, slot ≠ 0 → t.recipes[slot.val] = none) ∧
    t.cfg = { n := 24, t := 8192, tolerance := 2, stopTimeout := 200, depth := 6, traceMode := .roll, horizon := 3,
              spacing := 20, valveSettle := 15, holdLimit := 30 } ∧
    t.tuning = { trimLimit := 300, blockThreshold := 3, suspectTurns := 1, dripLimit := 8, traceThreshold := 64 }) ∧
  ∀ (dt : Nat) (s : State), s.holds .line .restart [] → s.mode = .setup ∨ s.mode = .halt →
    ∃ t, exec (.restart dt) s = .next t ∧
      (∀ h, (t.head h).entry =
        { fresh with
          service := if (s.head h).entry.service = .blocked then .blocked else .inService
          q := (s.head h).entry.q
          trim := (s.head h).entry.trim
          frozen := (s.head h).entry.frozen
          epoch := (s.head h).entry.epoch
          l16 := (s.head h).entry.l16 }) ∧
      (∀ slot : Slot, t.recipes[slot.val] =
        if slot = 0 ∧ s.recipes[slot.val] = none then some default else s.recipes[slot.val]) ∧
      t.cfg = s.cfg ∧ t.tuning = s.tuning

/-- What each reset makes of the two ports, and where RESTART is refused (R184, R187, R202). That the whole output of
an inspection frame which shifts out the discarded response reads as filler after a RESTART, and that a frame of
NOT_READY keeps it, is the model's choice (notes/assumptions/18.md). -/
def Obligations.ResetsSetThePorts : Prop :=
  (∀ (dt : Nat) (s : State), ∃ t, exec (.powerOnReset dt) s = .next t ∧ t.reportErrors = 0 ∧
    ∀ p, t.port p =
      { slot := none, buffer := none, collision := false, checkErrors := 0, frameErrors := 0, collisions := 0,
        events := 0, mask := 0, attnMode := .level, pulse := none, frame := none }) ∧
  ∀ (dt : Nat) (s : State), s.holds .line .restart [] →
    (s.mode = .production ∨ s.mode = .drain →
      exec (.restart dt) s = .next ((s.elapse dt).finish .line (bare .wrongMode))) ∧
    (s.mode = .setup ∨ s.mode = .halt → ∃ t, exec (.restart dt) s = .next t ∧ t.reportErrors = 0 ∧
      t.line =
        { s.line with
          slot := none, buffer := some ⟨.ok, []⟩, collision := false, checkErrors := 0, frameErrors := 0,
          collisions := 0, events := 0, pulse := none } ∧
      t.insp =
        { s.insp with
          slot := none, buffer := none, collision := false, checkErrors := 0, frameErrors := 0, collisions := 0,
          events := 0, pulse := none,
          frame := match s.insp.frame with
            | some (.response _ _) => some .filler
            | other => other })

/-! ## Turret angle tracking (chapter 1) -/

/-- A change of the encoder phases is a forward count, a reverse count or an angle fault, by the rows of R2; one that
brings both phases as they were is nothing (the model's choice, notes/assumptions/20.md). A forward count pays the
debt before the angle moves; a reverse count adds to the debt up to floor(T/4), moves no angle, and past the limit
raises ANGLE_FAULT (R3, R4). -/
def Obligations.EncoderChangesDecodeToCounts : Prop :=
  (∀ (dt : Nat) (a b infeed : Bool) (s : State),
     let s' := { s.elapse dt with encA := a, encB := b, infeed := infeed }
     (((s.encA, s.encB), (a, b)) ∈ forwardRows → exec (.encoderCount dt a b infeed) s = .next s'.forwardCount) ∧
     (((s.encA, s.encB), (a, b)) ∈ reverseRows → exec (.encoderCount dt a b infeed) s = .next s'.reverseCount) ∧
     (a ≠ s.encA ∧ b ≠ s.encB → exec (.encoderCount dt a b infeed) s = .next s'.angleFault) ∧
     (a = s.encA ∧ b = s.encB → exec (.encoderCount dt a b infeed) s = .next s')) ∧
  ∀ s : State,
    (0 < s.tracker.debt →
      s.forwardCount =
        if s.tracker.debt = 1 then
          { s with tracker := { s.tracker with debt := 0, motion := .stopped, stopStart := s.now } }
        else { s with tracker := { s.tracker with debt := s.tracker.debt - 1 } }) ∧
    (s.tracker.debt = 0 → s.forwardCount = s.advance) ∧
    (s.tracker.debt + 1 ≤ s.cfg.t / 4 →
      (s.tracker.motion ≠ .running → s.reverseCount =
        { s with tracker := { s.tracker with debt := s.tracker.debt + 1, motion := .reversing } }) ∧
      (s.tracker.motion = .running → s.reverseCount =
        ({ s with
          tracker := { s.tracker with
            debt := s.tracker.debt + 1, motion := .reversing, speed := 0, timingMark := false } }).mapBelow
          (Head.motionLeave s.now s.cfg))) ∧
    (s.cfg.t / 4 < s.tracker.debt + 1 → s.reverseCount = s.angleFault)

/-- A forward count with no debt is an advance: the motion step, with a first-advance to every head below N from
STOPPED; the angle, or the wrap with its revolution; the boundary events; at the wrap trace expiry and the speed step;
then the index deadline (R3, R5, R6). So the angle goes one forward modulo T, and at the wrap the next state has the
speed and the timing mark of R15 and R16 and no record past the horizon (R142). A first-advance returns a HELD head to
FILL_SLOW with RESUMED and touches no other (R54). The speed step of a revolution event and the range of the estimate
(R15, R16). -/
def Obligations.AdvancesMoveTheAngleForward : Prop :=
  (∀ (dt : Nat) (a b infeed : Bool) (s : State), ((s.encA, s.encB), (a, b)) ∈ forwardRows → s.tracker.debt = 0 →
     let now := s.now + dt
     let arrived : State := { s.elapse dt with encA := a, encB := b, infeed := infeed }
     let moving : State :=
       if s.tracker.motion = .stopped then
         ({ arrived with tracker := { s.tracker with motion := .running, stopStart := now } }).mapBelow
           (Head.firstAdvance now s.cfg)
       else { arrived with tracker := { s.tracker with stopStart := now } }
     (s.tracker.angle + 1 ≠ s.cfg.t → exec (.encoderCount dt a b infeed) s = .next
       ({ moving with tracker := { moving.tracker with
         angle := s.tracker.angle + 1 } }).deliverBoundaries.indexDeadline) ∧
     (s.tracker.angle + 1 = s.cfg.t →
       let delivered := ({ moving with tracker := { moving.tracker with
         angle := 0, revolutions := s.tracker.revolutions + 1 } }).deliverBoundaries
       exec (.encoderCount dt a b infeed) s = .next
         ({ delivered with queue :=
           delivered.queue.expire (s.tracker.revolutions + 1) s.cfg.horizon }).speedStep.indexDeadline)) ∧
  (∀ (dt : Nat) (a b infeed : Bool) (s : State),
     ((s.encA, s.encB), (a, b)) ∈ forwardRows → s.tracker.debt = 0 → s.tracker.angle < s.cfg.t →
     ∃ t, exec (.encoderCount dt a b infeed) s = .next t ∧
       t.tracker.angle = (s.tracker.angle + 1) % s.cfg.t ∧
       t.tracker.revolutions = (if s.tracker.angle + 1 = s.cfg.t then s.tracker.revolutions + 1 else s.tracker.revolutions) ∧
       t.tracker.debt = 0 ∧ t.tracker.stopStart = s.now + dt ∧
       (s.tracker.motion ≠ .reversing → t.tracker.motion = .running) ∧
       (s.tracker.angle + 1 = s.cfg.t →
         let ms := max 1 (min ((s.now + dt - s.tracker.revStart) / 1000) 4294967295)
         t.tracker.revStart = s.now + dt ∧
         (8 ≤ s.cfg.t → t.tracker.ref = s.tracker.ref ∧
           t.tracker.speed =
             (if s.tracker.ref = .tracking ∧ s.tracker.timingMark = true then roundHalfUp (3600000 * s.cfg.n) ms
             else s.tracker.speed) ∧
           t.tracker.timingMark = decide (s.tracker.ref = .tracking ∧ s.tracker.motion ≠ .reversing) ∧
           ∀ r ∈ t.queue.held, (t.tracker.revolutions - r.body.revolution).toNat < s.cfg.horizon)) ∧
       (s.tracker.angle + 1 ≠ s.cfg.t →
         t.tracker.revStart = s.tracker.revStart ∧ (t.tracker.speed = s.tracker.speed ∨ t.tracker.ref = .fault)) ∧
       t.cfg = s.cfg ∧ t.tuning = s.tuning ∧ t.recipes = s.recipes ∧ t.estop = s.estop) ∧
  (∀ (now : Nat) (cfg : ConfigBlock) (x : Head),
     (∀ p, x.seq.plan = some p → x.seq.state = .held →
       x.firstAdvance now cfg =
         { x with
           seq := { x.seq with
             state := .fillSlow, resumed := true, holdTimer := none, noFlowTimer := some ⟨now, p.noFlow * 1000⟩ }
           iface := x.iface.drive now cfg ⟨false, false, true, false⟩ }) ∧
     (x.seq.state ≠ .held → x.firstAdvance now cfg = x)) ∧
  ∀ s : State,
    let ms := max 1 (min ((s.now - s.tracker.revStart) / 1000) 4294967295)
    (s.tracker.ref = .tracking → s.tracker.motion = .running →
      s.speedStep = { s with tracker := { s.tracker with
        speed := if s.tracker.timingMark then roundHalfUp (3600000 * s.cfg.n) ms else s.tracker.speed
        timingMark := true
        revStart := s.now } }) ∧
    (s.tracker.ref ≠ .tracking →
      s.speedStep = { s with tracker := { s.tracker with timingMark := false, revStart := s.now } }) ∧
    (s.cfg.n ≤ 128 → s.tracker.speed ≤ 460800000 → s.speedStep.tracker.speed ≤ 460800000)

/-- An index arrival is ignored, taken as the first reference, or checked, and a checked one counts a slip, corrects
the angle or raises ANGLE_FAULT (R7, R8, R9). The slip count is set before the correction, which may itself raise
ANGLE_FAULT (the model's choice, notes/assumptions/12.md). -/
def Obligations.IndexArrivalsAreTakenByReference : Prop :=
  ∀ (dt : Nat) (infeed : Bool) (s : State),
    let s' := { s.elapse dt with infeed := infeed }
    let marked := { s' with tracker := { s.tracker with indexMark := true } }
    let e := if 2 * s.tracker.angle < s.cfg.t then (s.tracker.angle : Int) else (s.tracker.angle : Int) - s.cfg.t
    (s.tracker.ref = .fault → exec (.indexArrival dt infeed) s = .next s') ∧
    (s.tracker.ref = .unreferenced → 0 < s.tracker.debt → exec (.indexArrival dt infeed) s = .next s') ∧
    (s.tracker.ref = .unreferenced → s.tracker.debt = 0 → exec (.indexArrival dt infeed) s = .next
      { s' with tracker := { s.tracker with
        angle := 0, slips := 0, indexMark := true, timingMark := false, ref := .tracking } }) ∧
    (s.tracker.ref = .tracking → 0 < s.tracker.debt → exec (.indexArrival dt infeed) s = .next marked) ∧
    (s.tracker.ref = .tracking → s.tracker.debt = 0 →
      (e.natAbs ≤ s.cfg.tolerance → exec (.indexArrival dt infeed) s = .next
        (({ marked with tracker := { marked.tracker with slips := 0 } }).correct e)) ∧
      (s.cfg.tolerance < e.natAbs → s.tracker.slips = 0 → exec (.indexArrival dt infeed) s = .next
        (({ marked with tracker := { marked.tracker with slips := 1 } }).correct e)) ∧
      (s.cfg.tolerance < e.natAbs → s.tracker.slips ≠ 0 → exec (.indexArrival dt infeed) s = .next marked.angleFault))

/-- A negative correction leaves the angle and runs up exactly its counts as debt, or stops at the debt limit with
ANGLE_FAULT; a positive one ends with the angle at 0 and one revolution more (R10). -/
def Obligations.CorrectionsEndWhereTheIndexSays : Prop :=
  ∀ s : State, s.tracker.debt = 0 → s.tracker.angle < s.cfg.t →
    (∀ k : Nat, 0 < k →
      (k ≤ s.cfg.t / 4 → (s.correct (k : Int)).tracker.debt = k ∧
        (s.correct (k : Int)).tracker.angle = s.tracker.angle ∧ (s.correct (k : Int)).tracker.motion = .reversing ∧
        (s.correct (k : Int)).tracker.ref = s.tracker.ref) ∧
      (s.cfg.t / 4 < k → (s.correct (k : Int)).tracker.debt = s.cfg.t / 4 ∧
        (s.correct (k : Int)).tracker.angle = s.tracker.angle ∧ (s.correct (k : Int)).tracker.ref = .fault)) ∧
    (∀ k : Nat, 0 < k → s.tracker.angle + k = s.cfg.t →
      (s.correct (-(k : Int))).tracker.angle = 0 ∧ (s.correct (-(k : Int))).tracker.debt = 0 ∧
      (s.correct (-(k : Int))).tracker.revolutions = s.tracker.revolutions + 1) ∧
    s.correct 0 = s

/-- ANGLE_FAULT, once: FAULT with the angle, the debt, the motion, the index mark and the revolutions kept, the speed
gone, the line port's event set and the filler in HALT; in FAULT nothing more (R12). The index deadline: in TRACKING
at angle floor(T/8) a set mark is cleared and a clear one raises ANGLE_FAULT; elsewhere nothing is checked (R11).
ANGLE_REARM is taken in SETUP and HALT and refused in PRODUCTION and DRAIN (R13). -/
def Obligations.AngleFaultsStandUntilRearmed : Prop :=
  (∀ s : State,
     (s.tracker.ref = .fault → s.angleFault = s) ∧
     (s.tracker.ref ≠ .fault →
       s.angleFault.tracker = { s.tracker with ref := .fault, slips := 0, timingMark := false, speed := 0 } ∧
       s.angleFault.mode = .halt ∧
       s.angleFault.line.events =
         (if s.mode = .halt then s.line.events ||| 0x0002 else s.line.events ||| 0x0002 ||| 0x0001) ∧
       s.angleFault.insp.events = (if s.mode = .halt then s.insp.events else s.insp.events ||| 0x0001) ∧
       (s.mode = .halt → s.angleFault.heads = s.heads) ∧
       (s.mode ≠ .halt → ∀ h, s.angleFault.head h =
         if h.val < s.cfg.n then (s.head h).haltEntry s.now s.cfg else s.head h))) ∧
  (∀ s : State,
     (s.tracker.ref = .tracking → s.tracker.angle = s.cfg.t / 8 → s.tracker.indexMark = true →
       s.indexDeadline = { s with tracker := { s.tracker with indexMark := false } }) ∧
     (s.tracker.ref = .tracking → s.tracker.angle = s.cfg.t / 8 → s.tracker.indexMark = false →
       s.indexDeadline = s.angleFault) ∧
     (s.tracker.ref ≠ .tracking ∨ s.tracker.angle ≠ s.cfg.t / 8 → s.indexDeadline = s)) ∧
  ∀ (dt : Nat) (s : State), s.holds .line .angleRearm [] →
    (s.mode = .setup ∨ s.mode = .halt → exec (.angleRearm dt) s = .next
      (({ s.elapse dt with
        tracker := { s.tracker with
          ref := .unreferenced, slips := 0, indexMark := false, timingMark := false, speed := 0 } }).finish .line
        ⟨.ok, []⟩)) ∧
    (s.mode = .production ∨ s.mode = .drain →
      exec (.angleRearm dt) s = .next ((s.elapse dt).finish .line (bare .wrongMode)))

/-- The stop clock reaching the stop timeout in RUNNING: STOPPED, no speed, and motion-leave, which holds every head
in a fill state (R14, R52). A STOP_TIMEOUT before that, or in another motion state, does nothing (the model's choice,
notes/assumptions/3.md). -/
def Obligations.StopTimeoutHoldsTheFills : Prop :=
  ∀ (dt : Nat) (s : State),
    (s.tracker.motion = .running → s.tracker.stopStart + s.cfg.stopTimeout * 1000 ≤ s.now + dt →
      ∃ t, exec (.stopTimeout dt) s = .next t ∧
        t.tracker = { s.tracker with motion := .stopped, speed := 0, timingMark := false } ∧
        (∀ h, h.val < s.cfg.n → (s.head h).seq.state = .fillFast ∨ (s.head h).seq.state = .fillSlow →
          t.head h = { s.head h with
            seq := { (s.head h).seq with
              state := .held, noFlowTimer := none, holdTimer := some ⟨s.now + dt, s.cfg.holdLimit * 1000 * 1000⟩ }
            iface := (s.head h).iface.drive (s.now + dt) s.cfg ⟨false, false, false, false⟩ }) ∧
        (∀ h, s.cfg.n ≤ h.val ∨ ¬ ((s.head h).seq.state = .fillFast ∨ (s.head h).seq.state = .fillSlow) →
          t.head h = s.head h) ∧
        t = { s.elapse dt with tracker := t.tracker, heads := t.heads }) ∧
    (s.tracker.motion ≠ .running ∨ s.now + dt < s.tracker.stopStart + s.cfg.stopTimeout * 1000 →
      exec (.stopTimeout dt) s = .next (s.elapse dt))

/-! ## Head signals (chapter 2) -/

/-- An MP edge of a head below N is accepted with no accepted pulse before it or at least the minimum spacing after
the last, and then routed; a closer one only counts a glitch (R23). A head at or above N takes none (R22). -/
def Obligations.MeterEdgesAreSpaced : Prop :=
  ∀ (dt : Nat) (h : HeadId) (s : State),
    let x := s.head h
    (h.val < s.cfg.n → (∀ t, x.iface.lastPulse = some t → t + s.cfg.spacing ≤ s.now + dt) →
      exec (.meterPulse dt h.val) s = .next ((s.elapse dt).updHead h fun _ =>
        ({ x with iface := { x.iface with lastPulse := some (s.now + dt) } }).acceptedPulse (s.now + dt) s.cfg
          ((s.tracker.angle + s.cfg.t - h.val * s.cfg.t / s.cfg.n) % s.cfg.t))) ∧
    (h.val < s.cfg.n → (∃ t, x.iface.lastPulse = some t ∧ s.now + dt < t + s.cfg.spacing) →
      exec (.meterPulse dt h.val) s = .next ((s.elapse dt).updHead h fun _ =>
        { x with iface := { x.iface with
          glitches := if x.iface.glitches = 65535 then 65535 else x.iface.glitches + 1 } })) ∧
    (s.cfg.n ≤ h.val → exec (.meterPulse dt h.val) s = .next (s.elapse dt))

/-- Where an accepted pulse goes: a fill pulse counts, restarts the no-flow timer and meets the two thresholds by
equality; a pulse in HELD counts and may close; one in SETTLE is overrun; any other is a drip, with a plan or without
one (R24, R48, R53, R57). The close stops the timers of the fill, clears the marks, starts the settle timer, or has
the settle done at once with a settle time of 0, and makes the close record (R49). -/
def Obligations.AcceptedPulsesAreRoutedByState : Prop :=
  (∀ (now angle : Nat) (cfg : ConfigBlock) (x : Head),
     let up (c : U16) : U16 := if c = 65535 then 65535 else c + 1
     let counted := { x with seq := { x.seq with fillCount := up x.seq.fillCount } }
     (∀ p, x.seq.plan = some p →
       let running := { x with seq := { x.seq with
         fillCount := up x.seq.fillCount, noFlowTimer := some ⟨now, p.noFlow * 1000⟩ } }
       (x.seq.state = .fillFast ∨ x.seq.state = .fillSlow →
         x.acceptedPulse now cfg angle =
           if (up x.seq.fillCount).toNat = p.pClose then running.takeClose now cfg angle
           else if (up x.seq.fillCount).toNat = p.pSwitch ∧ x.seq.state = .fillFast then running.enter now cfg .fillSlow
           else running) ∧
       (x.seq.state = .held →
         x.acceptedPulse now cfg angle =
           if (up x.seq.fillCount).toNat = p.pClose then counted.takeClose now cfg angle else counted)) ∧
     (x.seq.state = .settle →
       x.acceptedPulse now cfg angle = { x with seq := { x.seq with overrunCount := up x.seq.overrunCount } }) ∧
     (x.seq.state ∈ [FillState.idle, .armed, .pressurizing, .pressurized, .snift, .discharge, .pass] →
       x.acceptedPulse now cfg angle = { x with iface := { x.iface with drips := up x.iface.drips } })) ∧
  ∀ (now angle : Nat) (cfg : ConfigBlock) (x : Head) (p : Plan) (opened : Nat),
    x.seq.plan = some p → x.seq.fillClock = some opened →
    x.takeClose now cfg angle =
      { x with
        seq := { x.seq with
          state := .settle, noFlowTimer := none, holdTimer := none, fillClock := none, sniftAngle := false,
          settleDone := decide (p.settle = 0),
          settleTimer := if p.settle = 0 then none else some ⟨now, p.settle * 1000⟩,
          close := some ⟨angle, min ((now - opened) / 1000) 65535⟩ }
        iface := x.iface.drive now cfg ⟨false, false, false, false⟩ }

/-- The pressure filter of a head below N: a pin that leaves the pressure level starts it, one that comes back stops
it, and 2 ms on the candidate change the level and deliver the switch event (R28). The model's choices: an expiry
before that, or with the filter idle, does nothing (notes/assumptions/3.md), and so does the level that already stands
(notes/assumptions/20.md); at or above N, where no pin is taken (R22), the level of the pin alone follows and the
filter's expiry does nothing (notes/assumptions/14.md). -/
def Obligations.PressureChangesAreFiltered : Prop :=
  ∀ (dt : Nat) (h : HeadId) (level : Bool) (s : State),
    let x := s.head h
    (s.cfg.n ≤ h.val →
      exec (.psPinChange dt h.val level) s = .next ((s.elapse dt).updHead h fun _ => { x with psPin := level }) ∧
      exec (.pressureFilterExpiry dt h.val) s = .next (s.elapse dt)) ∧
    (h.val < s.cfg.n →
      (x.psPin ≠ level → level = x.iface.pressure →
        exec (.psPinChange dt h.val level) s = .next ((s.elapse dt).updHead h fun _ =>
          { x with psPin := level, iface := { x.iface with filter := none } })) ∧
      (x.psPin ≠ level → level ≠ x.iface.pressure → x.iface.filter = none →
        exec (.psPinChange dt h.val level) s = .next ((s.elapse dt).updHead h fun _ =>
          { x with psPin := level, iface := { x.iface with filter := some ⟨level, s.now + dt⟩ } })) ∧
      (x.psPin ≠ level → level ≠ x.iface.pressure → x.iface.filter ≠ none →
        exec (.psPinChange dt h.val level) s = .next ((s.elapse dt).updHead h fun _ => { x with psPin := level })) ∧
      (x.psPin = level → exec (.psPinChange dt h.val level) s = .next (s.elapse dt)) ∧
      (∀ f, x.iface.filter = some f → f.start + 2000 ≤ s.now + dt →
        let s' := (s.elapse dt).updHead h fun _ =>
          { x with iface := { x.iface with pressure := f.candidate, filter := none } }
        exec (.pressureFilterExpiry dt h.val) s = .next
          (if f.candidate then s'.updHead h (Head.switchAssert (s.now + dt) s.cfg) else s'.switchRelease h)) ∧
      ((∀ f, x.iface.filter = some f → s.now + dt < f.start + 2000) →
        exec (.pressureFilterExpiry dt h.val) s = .next (s.elapse dt)))

/-- A switch release from PRESSURIZED through SETTLE is a burst: the head snifts with BURST unless its outcome is set,
each of its two neighbours among N has its suspect count raised to the suspect turns, and no other head changes; from
any other state a release changes nothing (R63, R64). A readback fault with no outcome from PRESSURIZING through
SETTLE sets VALVE and snifts; with an outcome there it snifts and auto-blocks at once; elsewhere it auto-blocks at
once and leaves the cycle (R65, R99). -/
def Obligations.BurstsAndReadbackFaultsEndTheFill : Prop :=
  (∀ (h : HeadId) (s : State), 12 ≤ s.cfg.n → s.cfg.n ≤ 128 → h.val < s.cfg.n →
     let x := s.head h
     (x.seq.state ∈ [FillState.pressurized, .fillFast, .fillSlow, .held, .settle] →
       ((s.switchRelease h).head h).seq.state = .snift ∧
       ((s.switchRelease h).head h).seq.outcome = some (x.seq.outcome.getD .burst) ∧
       ((s.switchRelease h).head h).entry = x.entry ∧
       ((s.switchRelease h).head h).iface.cmd = ⟨false, false, false, true⟩ ∧
       (∀ j : HeadId, j ≠ h →
         (s.switchRelease h).head j =
           if j.val = (h.val + 1) % s.cfg.n ∨ (j.val + 1) % s.cfg.n = h.val ∧ j.val < s.cfg.n then
             { s.head j with entry := { (s.head j).entry with
               suspect := max (s.head j).entry.suspect s.tuning.suspectTurns } }
           else s.head j) ∧
       s.switchRelease h = { s with heads := (s.switchRelease h).heads }) ∧
     (x.seq.state ∉ [FillState.pressurized, .fillFast, .fillSlow, .held, .settle] → s.switchRelease h = s)) ∧
  ∀ (h : HeadId) (s : State),
    let x := s.head h
    let blocked (sv : Service) : Service := if sv = .blocked then .blocked else .autoBlocked .valve
    let filling := x.seq.state ∈ [FillState.pressurizing, .pressurized, .fillFast, .fillSlow, .held, .settle]
    (filling → x.seq.outcome = none →
      s.readbackFault h = s.updHead h fun y => ({ y with seq := { y.seq with outcome := some .valve } }).enterSnift
        s.now s.cfg) ∧
    (filling → x.seq.outcome ≠ none →
      (s.readbackFault h).head h =
        { x.enterSnift s.now s.cfg with entry := { x.entry with service := blocked x.entry.service } }) ∧
    (¬ filling → (s.readbackFault h).head h =
      { x with entry := { x.entry with service := blocked x.entry.service } }) ∧
    (¬ (filling ∧ x.seq.outcome = none) →
      (s.readbackFault h).line.events =
        (if blocked x.entry.service = x.entry.service then s.line.events else s.line.events ||| 0x0004)) ∧
    ∀ j, j ≠ h → (s.readbackFault h).head j = s.head j

/-- A coil sense of a head below N is compared with its command when the output's settle timer expires and at each of
its changes while that timer is idle; a difference is a readback fault, a match is nothing (R31, R32). The model's
choices: an expiry before its time does nothing (notes/assumptions/3.md), and so does the level that already stands
(notes/assumptions/20.md); at or above N, where nothing is compared (R22), the level and the end of the timer alone
are taken (notes/assumptions/14.md). -/
def Obligations.SensesAreCheckedAgainstCommands : Prop :=
  ∀ (dt : Nat) (h : HeadId) (o : Output) (level : Bool) (s : State),
    let x := s.head h
    let settled := (s.elapse dt).updHead h fun _ =>
      { x with iface := { x.iface with settle := x.iface.settle.put o none } }
    let sensed := (s.elapse dt).updHead h fun _ => { x with sense := x.sense.put o level }
    (s.cfg.n ≤ h.val →
      exec (.coilSenseChange dt h.val o level) s = .next sensed ∧
      ∀ t, x.iface.settle.get o = some t → t.start + t.period ≤ s.now + dt →
        exec (.valveSettleExpiry dt h.val o) s = .next settled) ∧
    (∀ t, x.iface.settle.get o = some t → h.val < s.cfg.n → t.start + t.period ≤ s.now + dt →
      exec (.valveSettleExpiry dt h.val o) s = .next
        (if x.sense.get o = x.iface.cmd.get o then settled else settled.readbackFault h)) ∧
    ((∀ t, x.iface.settle.get o = some t → s.now + dt < t.start + t.period) →
      exec (.valveSettleExpiry dt h.val o) s = .next (s.elapse dt)) ∧
    (h.val < s.cfg.n → x.sense.get o ≠ level → x.iface.settle.get o = none →
      exec (.coilSenseChange dt h.val o level) s = .next
        (if level = x.iface.cmd.get o then sensed else sensed.readbackFault h)) ∧
    (x.sense.get o ≠ level → x.iface.settle.get o ≠ none →
      exec (.coilSenseChange dt h.val o level) s = .next sensed) ∧
    (x.sense.get o = level → exec (.coilSenseChange dt h.val o level) s = .next (s.elapse dt))

/-- Every change of an output command starts that output's settle timer at the event, with the settle time in force;
the resets and a CONFIG_WRITE, which bring heads to CLOSED without one, apart (R21, R22, R31). -/
def Obligations.CommandChangesStartTheirTimers : Prop :=
  ∀ (c : Instr) (s t : State), exec c s = .next t →
    (∀ dt, c ≠ .powerOnReset dt ∧ c ≠ .restart dt ∧ c ≠ .configWrite dt) →
    ∀ (h : HeadId) (o : Output), (t.head h).iface.cmd.get o ≠ (s.head h).iface.cmd.get o →
      (t.head h).iface.settle.get o = some ⟨t.now, s.cfg.valveSettle * 1000⟩

/-- ESTOP: the level follows the pin, and a change to ASSERTED enters HALT, delivered to every head below N, unless
the mode is HALT already (R34, R175); the level that already stands does nothing (the model's choice,
notes/assumptions/20.md). -/
def Obligations.EstopAssertionEntersHalt : Prop :=
  ∀ (dt : Nat) (s : State),
    (∀ level, s.estop = true ∨ level = false ∨ s.mode = .halt →
      exec (.estopChange dt level) s = .next { s.elapse dt with estop := level }) ∧
    (s.estop = false → s.mode ≠ .halt → ∃ t, exec (.estopChange dt true) s = .next t ∧
      t.estop = true ∧ t.mode = .halt ∧
      (∀ h, t.head h = if h.val < s.cfg.n then (s.head h).haltEntry (s.now + dt) s.cfg else s.head h) ∧
      (∀ p, (t.port p).events = (s.port p).events ||| 0x0001) ∧
      t = { s.elapse dt with estop := true, mode := .halt, heads := t.heads, line := t.line, insp := t.insp })

/-! ## The fill cycle (chapter 3) -/

/-- HALT entry at one sequencer: a pressurized or filling head aborts into SNIFT, a settling one is decided with
SHORT_SETTLE and no lead, an armed one passes, and the others go on (R66). Entry to SNIFT stops the other timers and
the fill clock, starts the snift timer with the plan's snift time and opens V alone (R59). -/
def Obligations.HaltEntryStopsEachFill : Prop :=
  ∀ (now : Nat) (cfg : ConfigBlock) (x : Head),
    (x.seq.state ∈ [FillState.pressurizing, .pressurized, .fillFast, .fillSlow, .held] →
      x.haltEntry now cfg =
        ({ x with seq := { x.seq with outcome := some (x.seq.outcome.getD .aborted) } }).enterSnift now cfg ∧
      (x.haltEntry now cfg).seq.state = .snift ∧
      (x.haltEntry now cfg).seq.outcome = some (x.seq.outcome.getD .aborted) ∧
      (x.haltEntry now cfg).entry = x.entry) ∧
    (x.seq.state = .settle →
      x.haltEntry now cfg =
        (settleEnd { x with seq := { x.seq with shortSettle := true } }).enterSnift now cfg ∧
      (x.haltEntry now cfg).seq.state = .snift ∧ (x.haltEntry now cfg).seq.shortSettle = true ∧
      (∀ p, x.seq.plan = some p →
        (x.haltEntry now cfg).seq.outcome = some (x.seq.outcome.getD (decideOutcome p x.seq))) ∧
      (x.haltEntry now cfg).entry = x.entry) ∧
    (x.seq.state = .armed →
      (x.haltEntry now cfg).seq =
        { x.seq with state := .pass, plan := none, outcome := some .notFilled, reason := some .halt } ∧
      (x.haltEntry now cfg).entry = x.entry) ∧
    (x.seq.state ∈ [FillState.idle, .snift, .discharge, .pass] → x.haltEntry now cfg = x) ∧
    ∀ p, x.seq.plan = some p →
      x.enterSnift now cfg =
        { x with
          seq := { x.seq with
            state := .snift, noFlowTimer := none, holdTimer := none, settleTimer := none, fillClock := none,
            sniftTimer := some ⟨now, p.snift * 1000⟩ }
          iface := x.iface.drive now cfg ⟨false, false, false, true⟩ }

/-- The timers of a cycle, each at its expiry in the state it belongs to; an expiry before its time, or in another
state, does nothing (the model's choice, notes/assumptions/3.md): no flow settles with NO_FLOW, a hold aborts into
SNIFT, a settle is marked done and snifts if the snift angle is behind it, a snift discharges and may complete a drain
(R50, R55, R58, R60, R174). -/
def Obligations.CycleTimersActAtTheirExpiry : Prop :=
  ∀ (dt : Nat) (h : HeadId) (s : State),
    let x := s.head h
    let now := s.now + dt
    let s' := s.elapse dt
    (∀ t, x.seq.noFlowTimer = some t → t.start + t.period ≤ now → x.seq.state = .fillFast ∨ x.seq.state = .fillSlow →
      exec (.noFlowExpiry dt h.val) s = .next (s'.updHead h fun _ =>
        ({ x with seq := { x.seq with outcome := some (x.seq.outcome.getD .noFlow) } }).enterSettle now s.cfg)) ∧
    (∀ t, x.seq.holdTimer = some t → t.start + t.period ≤ now → x.seq.state = .held →
      exec (.holdExpiry dt h.val) s = .next (s'.updHead h fun _ =>
        ({ x with seq := { x.seq with outcome := some (x.seq.outcome.getD .aborted) } }).enterSnift now s.cfg)) ∧
    (∀ t, x.seq.settleTimer = some t → t.start + t.period ≤ now → x.seq.state = .settle →
      exec (.settleTimerExpiry dt h.val) s = .next (s'.updHead h fun _ =>
        if x.seq.sniftAngle then
          ({ x with seq := { x.seq with settleTimer := none, settleDone := true } }).startSnift now s.cfg
        else { x with seq := { x.seq with settleTimer := none, settleDone := true } })) ∧
    (∀ t, x.seq.sniftTimer = some t → t.start + t.period ≤ now → x.seq.state = .snift →
      exec (.sniftTimerExpiry dt h.val) s = .next ((s'.updHead h fun _ =>
        { x with
          seq := { x.seq with state := .discharge, sniftTimer := none }
          iface := x.iface.drive now s.cfg ⟨false, false, false, false⟩ }).drainCheck)) ∧
    (¬ (x.seq.state = .fillFast ∨ x.seq.state = .fillSlow) ∨
        (∀ t, x.seq.noFlowTimer = some t → now < t.start + t.period) → exec (.noFlowExpiry dt h.val) s = .next s') ∧
    (x.seq.state ≠ .held ∨ (∀ t, x.seq.holdTimer = some t → now < t.start + t.period) →
      exec (.holdExpiry dt h.val) s = .next s') ∧
    (x.seq.state ≠ .settle ∨ (∀ t, x.seq.settleTimer = some t → now < t.start + t.period) →
      exec (.settleTimerExpiry dt h.val) s = .next s') ∧
    (x.seq.state ≠ .snift ∨ (∀ t, x.seq.sniftTimer = some t → now < t.start + t.period) →
      exec (.sniftTimerExpiry dt h.val) s = .next s')

/-- The boundaries of an advance: exactly the heads below N whose local angle has come to local 0, to a window of the
plan they hold from ARMED to DISCHARGE, or to the release count of their PASS get one boundary event each (R17, R18),
in an order that is free (the model's choice, notes/assumptions/7.md), and each boundary moves its head. The four
windows before release, each in the states it moves: A_press pressurizes, and goes on to PRESSURIZED if the switch is
already asserted; A_fill opens the fill or ends it with NO_PRESSURE; A_close ends it SHORT; A_snift marks the angle
and, if the settle is done, runs the settle-end computation and snifts (R45, R47, R51, R58). -/
def Obligations.WindowsMoveTheCycle : Prop :=
  (∀ (s : State) (h : HeadId) (b : Boundary),
     let x := (s.head h).seq
     let angle := (s.tracker.angle + s.cfg.t - h.val * s.cfg.t / s.cfg.n) % s.cfg.t
     (h, b) ∈ s.reached ↔ h.val < s.cfg.n ∧
       (b = .infeed ∧ angle = 0 ∨
        (∃ p, x.plan = some p ∧
          x.state ∈ [FillState.armed, .pressurizing, .pressurized, .fillFast, .fillSlow, .held, .settle, .snift,
            .discharge] ∧
          (b, angle) ∈ [(Boundary.press, p.cPress), (.fill, p.cFill), (.close, p.cClose), (.snift, p.cSnift),
            (.release, p.cRelease)]) ∨
        ∃ header, x.header = some header ∧ x.state = .pass ∧ b = .release ∧ angle = header.release)) ∧
  (∀ s : State, s.reached.Nodup ∧ ∃ (order : List (HeadId × Boundary)) (n : Nat), order.Perm s.reached ∧
     s.deliverBoundaries = order.foldl (fun x event => x.onBoundary event.1 event.2) { s with choices := n }) ∧
  (∀ (s : State) (h : HeadId),
     s.onBoundary h .infeed = s.onInfeed h ∧
     s.onBoundary h .press = s.updHead h (Head.onPress s.now s.cfg) ∧
     s.onBoundary h .fill = s.updHead h (Head.onFill s.now s.cfg) ∧
     s.onBoundary h .close = s.updHead h (Head.onClose s.now s.cfg) ∧
     s.onBoundary h .snift = s.updHead h (Head.onSnift s.now s.cfg) ∧
     s.onBoundary h .release = s.onRelease h) ∧
  ∀ (now : Nat) (cfg : ConfigBlock) (x : Head),
    (x.seq.state = .armed → x.iface.cmd.p = false →
      (x.onPress now cfg).seq = { x.seq with state := if x.iface.pressure then .pressurized else .pressurizing } ∧
      (x.onPress now cfg).iface = x.iface.drive now cfg ⟨true, false, false, false⟩) ∧
    (∀ p, x.seq.plan = some p → x.seq.state = .pressurized →
      (x.onFill now cfg).seq =
        { x.seq with
          state := if 0 < p.pSwitch then .fillFast else .fillSlow, fillOpened := true, fillClock := some now,
          noFlowTimer := some ⟨now, p.noFlow * 1000⟩ } ∧
      (x.onFill now cfg).iface.cmd =
        (if 0 < p.pSwitch then ⟨false, true, false, false⟩ else ⟨false, false, true, false⟩)) ∧
    (x.seq.state = .pressurizing →
      x.onFill now cfg =
        ({ x with seq := { x.seq with outcome := some (x.seq.outcome.getD .noPressure) } }).enterSnift now cfg ∧
      (x.onFill now cfg).seq.state = .snift ∧
      (x.onFill now cfg).seq.outcome = some (x.seq.outcome.getD .noPressure) ∧
      (x.onFill now cfg).seq.fillOpened = x.seq.fillOpened) ∧
    (x.seq.state = .fillFast ∨ x.seq.state = .fillSlow →
      (x.onClose now cfg).seq.state = .settle ∧ (x.onClose now cfg).seq.close = x.seq.close ∧
      (x.onClose now cfg).seq.outcome = some (x.seq.outcome.getD .short)) ∧
    (x.seq.state = .settle → x.seq.settleDone = false →
      x.onSnift now cfg = { x with seq := { x.seq with sniftAngle := true } }) ∧
    (x.seq.state = .settle → x.seq.settleDone = true →
      x.onSnift now cfg = (settleEnd { x with seq := { x.seq with sniftAngle := true } }).enterSnift now cfg ∧
      (x.onSnift now cfg).seq.state = .snift) ∧
    (x.seq.state ≠ .armed → x.onPress now cfg = x) ∧
    (x.seq.state ≠ .pressurized → x.seq.state ≠ .pressurizing → x.onFill now cfg = x) ∧
    (x.seq.state ≠ .fillFast → x.seq.state ≠ .fillSlow → x.onClose now cfg = x) ∧
    (x.seq.state ≠ .settle → x.onSnift now cfg = x)

/-- The local-0 event of a head: first the drip check, which over the drip limit sets the warning, adds the count to
the drip total and raises HEAD_WARNING, and either way returns the count to 0 (R26); then the infeed reading, which a
head outside IDLE leaves without effect on its cycle (R44). The infeed of an idle head: an empty pocket counts; a
container starts a fill only on a head in service in PRODUCTION, and passes with its reason otherwise, reading the
stack's top and leaving it (R40, R41, R43, R130). -/
def Obligations.InfeedsStartAFillOrPass : Prop :=
  (∀ (h : HeadId) (s : State),
     let x := s.head h
     let checked : State :=
       if s.tuning.dripLimit < x.iface.drips.toNat then
         (s.updHead h fun _ =>
           { x with
             iface := { x.iface with drips := 0 }
             entry := { x.entry with
               dripWarning := true
               stats := { x.entry.stats with
                 dripTotal := BitVec.ofNat 16 (min (x.entry.stats.dripTotal.toNat + x.iface.drips.toNat) 65535) } } }).raise
           .headWarning
       else s.updHead h fun _ => { x with iface := { x.iface with drips := 0 } }
     (x.seq.state = .idle → s.onInfeed h = checked.infeedDecision h) ∧
     (x.seq.state ≠ .idle → s.onInfeed h = checked)) ∧
  ∀ (h : HeadId) (s : State) (slot : Slot) (r : Recipe), s.topRecipe = some (slot, r) →
    let x := s.head h
    let passed (why : NotFilledReason) : State := s.updHead h fun _ =>
      { x with
        seq := { seqReset with
          state := .pass, outcome := some .notFilled, reason := some why,
          header := some ⟨slot, r.product, r.vT, x.entry.epoch, r.aRelease * s.cfg.t / 3600, r.resumeReject⟩ }
        iface := x.iface.drive s.now s.cfg ⟨false, false, false, false⟩ }
    (s.infeed = false → s.infeedDecision h = s.updHead h fun _ =>
      { x with entry := { x.entry with stats := { x.entry.stats with
        emptyPockets := if x.entry.stats.emptyPockets = 65535 then 65535 else x.entry.stats.emptyPockets + 1 } } }) ∧
    (s.infeed = true →
      (x.entry.service ≠ .inService → s.infeedDecision h = passed .blocked) ∧
      (x.entry.service = .inService →
        (s.mode = .production → s.infeedDecision h = s.fillStart h) ∧
        (s.mode = .drain → s.infeedDecision h = passed .drain) ∧
        (s.mode = .halt → s.infeedDecision h = passed .halt) ∧
        (s.mode = .setup → s.infeedDecision h = passed .setup)))

/-- A fill start takes the top of the stack once: a count above 1 falls by one, a count of 1 pops with STACK_NOTICE
or, at the floor, becomes indefinite, and no count stays; the head is ARMED with its plan, or passes with PLAN_RANGE,
and the fill start is counted (R42, R79, R129). -/
def Obligations.FillStartsTakeTheTop : Prop :=
  ∀ (h : HeadId) (s : State) (top : StackEntry) (below : List StackEntry) (r : Recipe),
    s.stack.entries = top :: below → s.recipes[top.slot.val] = some r →
    let t := s.fillStart h
    let x := s.head h
    t.stack.spills = s.stack.spills ∧
    (top.count = none → t.stack.entries = top :: below ∧ t.line.events = s.line.events) ∧
    (∀ n, top.count = some n → 1 < n →
      t.stack.entries = ⟨top.slot, some (n - 1)⟩ :: below ∧ t.line.events = s.line.events) ∧
    (top.count = some 1 → below ≠ [] → t.stack.entries = below ∧ t.line.events = s.line.events ||| 0x0010) ∧
    (top.count = some 1 → below = [] →
      t.stack.entries = [⟨top.slot, none⟩] ∧ t.line.events = s.line.events) ∧
    (t.head h).entry = { x.entry with stats := { x.entry.stats with
      fillsStarted := if x.entry.stats.fillsStarted = 65535 then 65535 else x.entry.stats.fillsStarted + 1 } } ∧
    (∀ p, formPlan top.slot r x.entry s.cfg.t = some p →
      (t.head h).seq = { seqReset with
        state := .armed, plan := some p,
        header := some ⟨top.slot, r.product, r.vT, x.entry.epoch, p.cRelease, r.resumeReject⟩ }) ∧
    (formPlan top.slot r x.entry s.cfg.t = none →
      (t.head h).seq.state = .pass ∧ (t.head h).seq.outcome = some .notFilled ∧
      (t.head h).seq.reason = some .planRange ∧ (t.head h).seq.plan = none) ∧
    ∀ j, j ≠ h → t.head j = s.head j

/-- A release makes the head's record and returns it to IDLE: the record takes its flags, its outcome and its metered
fields from the cycle, one record more is created, and the head keeps its calibration (R61, R68, R69, R70). One before
the end of the snift or of the settle marks the record SNIFT_SHORT, one in SETTLE also SHORT_SETTLE, and teaches the
head no lead (R61). -/
def Obligations.ReleasesMakeOneRecord : Prop :=
  (∀ (h : HeadId) (s : State) (hd : CycleHeader) (o : FillOutcome),
     (s.head h).seq.header = some hd → (s.head h).seq.outcome = some o →
     (s.head h).seq.state = .discharge ∨ (s.head h).seq.state = .pass →
     let x := s.head h
     let t := s.onRelease h
     let total := x.seq.fillCount.toNat + x.seq.overrunCount.toNat
     let d : RecordDraft :=
       { head := h, slot := hd.slot, product := hd.product, vT := hd.vT, epoch := hd.epoch, outcome := o,
         flags :=
           { suspect := decide (0 < x.entry.suspect), resumed := x.seq.resumed, shortSettle := x.seq.shortSettle,
             sniftShort := x.seq.sniftShort, cleared := false,
             reject := decide (o ≠ .ok ∨ 0 < x.entry.suspect ∨ x.seq.sniftShort = true ∨
               x.seq.resumed = true ∧ hd.resumeReject = true) },
         reason := if o = .notFilled then x.seq.reason else none,
         metered := if x.seq.fillOpened then
             x.seq.plan.map fun p => ⟨total, roundHalfUp (total * p.d) 100000000, p.pClose⟩
           else none,
         close := x.seq.close, revolution := s.tracker.revolutions }
     t.queue = s.queue.accept s.cfg.traceMode d ∧
     (t.head h).seq = seqReset ∧ (t.head h).iface = x.iface.drive s.now s.cfg ⟨false, false, false, false⟩ ∧
     (t.head h).entry = x.entry.recorded o s.tuning.blockThreshold ∧
     (∀ j, j ≠ h → t.head j = s.head j) ∧ t.tracker = s.tracker ∧ t.stack = s.stack ∧ t.mode = s.mode) ∧
  ∀ (h : HeadId) (s : State) (hd : CycleHeader) (p : Plan),
    (s.head h).seq.header = some hd → (s.head h).seq.plan = some p → s.queue.held.length < 256 →
    (s.head h).seq.state = .settle ∨ ((s.head h).seq.state = .snift ∧ (s.head h).seq.outcome ≠ none) →
    ∃ r, (s.onRelease h).queue.held = s.queue.held ++ [r] ∧ r.body.head = h ∧
      r.body.flags.sniftShort = true ∧ r.body.flags.reject = true ∧
      ((s.head h).seq.state = .settle → r.body.flags.shortSettle = true ∧
        r.body.outcome = (s.head h).seq.outcome.getD (decideOutcome p (s.head h).seq)) ∧
      ((s.onRelease h).head h).seq.state = .idle ∧
      ((s.onRelease h).head h).entry.l16 = (s.head h).entry.l16

/-- The outcome of a cycle is set once: no command but one that ends cycles changes an outcome that is set, and those
that end them leave it or leave the head idle at each event (R62). -/
def Obligations.OutcomesStandOnceSet : Prop :=
  (∀ (c : Instr) (s t : State), exec c s = .next t →
    (∀ dt a b infeed, c ≠ .powerOnReset dt ∧ c ≠ .restart dt ∧ c ≠ .pocketsClear dt ∧
      c ≠ .encoderCount dt a b infeed ∧ c ≠ .indexArrival dt infeed) →
    ∀ h o, (s.head h).seq.outcome = some o → (s.head h).seq.state ≠ .armed → (t.head h).seq.outcome = some o) ∧
  ∀ (h : HeadId) (b : Boundary) (s : State) (o : FillOutcome), (s.head h).seq.outcome = some o →
    (s.head h).seq.state ≠ .idle →
    ((s.onBoundary h b).head h).seq.outcome = some o ∨ ((s.onBoundary h b).head h).seq.state = .idle

/-! ## Dose planning (chapter 4) -/

/-- The plan of an acceptable recipe on a head in range: it fails exactly above 65535 target pulses; otherwise its
divisor and target lie in their ranges, its thresholds meet 1 ≤ P_close ≤ P_target ≤ 65535 and 0 ≤ P_switch ≤ P_close,
and its windows ascend by at least 14 counts and stay 14 short of a turn (R76, R77, R78, R79, R81, R83). The two
roundings of the manual: the quotient rounded half up is the one integer within half a divisor of the exact quotient,
a tie going up, and half away from zero is the same on the magnitude with the sign kept (R74). -/
def Obligations.PlansKeepTheirChain : Prop :=
  (∀ (slot : Slot) (r : Recipe) (e : HeadRecord) (t : Nat),
     r.acceptable = true → 2000 ≤ e.q ∧ e.q ≤ 100000 → e.trim.natAbs ≤ 500 → 1024 ≤ t ∧ t ≤ 32768 →
     let d := e.q * (10000 + e.trim).toNat
     (formPlan slot r e t = none ↔ 65535 < roundHalfUp (r.vT * 100000000) d) ∧
     ∀ p, formPlan slot r e t = some p →
       (p.d = d ∧ 19000000 ≤ p.d ∧ p.d ≤ 1050000000) ∧
       (p.pTarget = roundHalfUp (r.vT * 100000000) d ∧ 48 ≤ p.pTarget ∧ p.pTarget ≤ 65535) ∧
       (p.lead = roundHalfUp e.l16 16 ∧ p.pSlow = roundHalfUp (r.vSlow * 100000000) d ∧ p.pSlow ≤ p.pTarget) ∧
       p.pClose = max 1 (p.pTarget - p.lead) ∧ p.pSwitch = p.pClose - p.pSlow ∧
       (1 ≤ p.pClose ∧ p.pClose ≤ p.pTarget) ∧
       (14 ≤ p.cPress ∧ p.cPress + 14 ≤ p.cFill ∧ p.cFill + 14 ≤ p.cClose ∧ p.cClose + 14 ≤ p.cSnift ∧
         p.cSnift + 14 ≤ p.cRelease ∧ p.cRelease + 14 ≤ t) ∧
       (p.slot = slot ∧ p.vT = r.vT ∧ p.epoch = e.epoch ∧ p.l16 = e.l16)) ∧
  (∀ a b : Nat, 0 < b → 2 * a < 2 * roundHalfUp a b * b + b ∧ 2 * roundHalfUp a b * b ≤ 2 * a + b) ∧
  (∀ (x : Int) (b : Nat), 0 < b →
    (0 ≤ x → roundHalfAway x b = roundHalfUp x.natAbs b) ∧ (x < 0 → roundHalfAway x b = -(roundHalfUp x.natAbs b : Int)) ∧
    2 * (roundHalfAway x b * b - x).natAbs ≤ b)

/-- The settle-end computation: a set outcome stands, OVERRUN comes before the volume, and the lead follows the
overrun of a plain OK or OUT_OF_TOL fill by the rounded step, within 0 to 4080, and nothing else of the head's record
moves (R84, R85, R86, R87, R88, R89). -/
def Obligations.SettleEndsDecideAndTeach : Prop :=
  ∀ (x : Head) (p : Plan), x.seq.plan = some p →
    let o := x.seq.overrunCount.toNat
    let volume := roundHalfUp ((x.seq.fillCount.toNat + o) * p.d) 100000000
    let decided : FillOutcome :=
      if p.oMax < o then .overrun
      else if volume ≤ p.vT + p.tolerance ∧ p.vT ≤ volume + p.tolerance then .ok else .outOfTol
    let outcome := x.seq.outcome.getD decided
    let learned : Int := p.l16 + roundHalfAway ((o : Int) * 16 - p.l16) (2 ^ p.leadGain)
    (settleEnd x).seq = { x.seq with outcome := some outcome } ∧ (settleEnd x).iface = x.iface ∧
    ((outcome = .ok ∨ outcome = .outOfTol) ∧ x.seq.resumed = false ∧ x.seq.shortSettle = false →
      (settleEnd x).entry = { x.entry with l16 := (max 0 (min 4080 learned)).toNat }) ∧
    (¬ ((outcome = .ok ∨ outcome = .outOfTol) ∧ x.seq.resumed = false ∧ x.seq.shortSettle = false) →
      (settleEnd x).entry = x.entry)

/-! ## The head table (chapter 5) -/

/-- HEAD_CAL_WRITE, HEAD_TRIM_SET and HEAD_LEAD_SET on a head below N: what each stores, what it answers, and what it
refuses (R103, R104, R106). -/
def Obligations.CalibrationWritesStoreTheirValues : Prop :=
  ∀ (dt : Nat) (s : State) (h : HeadId) (head : Byte), head.toNat = h.val → h.val < s.cfg.n →
    let e := (s.head h).entry
    (∀ q0 q1 q2 q3 : Byte, s.holds .line .headCalWrite [head, q0, q1, q2, q3] →
      let q := q0.toNat + 256 * q1.toNat + 65536 * q2.toNat + 16777216 * q3.toNat
      (2000 ≤ q ∧ q ≤ 100000 → exec (.headCalWrite dt) s = .next
        (((s.elapse dt).updEntry h fun _ => { e with q := q, epoch := e.epoch + 1 }).finish .line
          ⟨.ok, [q0, q1, q2, q3] ++ leBytes 2 (e.epoch + 1).toNat⟩)) ∧
      (q < 2000 ∨ 100000 < q →
        exec (.headCalWrite dt) s = .next ((s.elapse dt).finish .line (bare .badValue)))) ∧
    (∀ t0 t1 flag : Byte, s.holds .line .headTrimSet [head, t0, t1, flag] →
      let value := (BitVec.ofNat 16 (t0.toNat + 256 * t1.toNat)).toInt
      let trim := max (-(s.tuning.trimLimit : Int)) (min s.tuning.trimLimit value)
      (flag = 0 ∨ flag = 1 → exec (.headTrimSet dt) s = .next
        (((s.elapse dt).updEntry h fun _ =>
            { e with trim := trim, frozen := decide (flag = 1), epoch := e.epoch + 1 }).finish .line
          ⟨.ok, leBytes 2 (BitVec.ofInt 16 trim).toNat ++ [flag] ++ leBytes 2 (e.epoch + 1).toNat⟩)) ∧
      (flag ≠ 0 ∧ flag ≠ 1 →
        exec (.headTrimSet dt) s = .next ((s.elapse dt).finish .line (bare .badValue)))) ∧
    (∀ l0 l1 : Byte, s.holds .line .headLeadSet [head, l0, l1] →
      let lead := min (l0.toNat + 256 * l1.toNat) 4080
      exec (.headLeadSet dt) s = .next
        (((s.elapse dt).updEntry h fun _ => { e with l16 := lead }).finish .line ⟨.ok, leBytes 2 lead⟩))

/-- HEAD_BLOCK, HEAD_RELEASE and HEAD_STATS_CLEAR on a head below N, in every mode (R95, R96, R112). Every head
request checks its head number first: one of N or above is refused with BAD_VALUE and nothing changes (R94). -/
def Obligations.ServiceRequestsActOnOneHead : Prop :=
  (∀ (dt : Nat) (s : State) (h : HeadId) (head : Byte), head.toNat = h.val → h.val < s.cfg.n →
     let x := s.head h
     (s.holds .line .headBlock [head] → exec (.headBlock dt) s = .next
       (((s.elapse dt).updEntry h fun _ => { x.entry with service := .blocked }).finish .line ⟨.ok, []⟩)) ∧
     (s.holds .line .headRelease [head] → exec (.headRelease dt) s = .next
       (((s.elapse dt).updEntry h fun _ =>
         if x.entry.service = .inService then x.entry else { x.entry with service := .inService, faults := 0 }).finish
         .line ⟨.ok, []⟩)) ∧
     (s.holds .line .headStatsClear [head] → exec (.headStatsClear dt) s = .next
       (((s.elapse dt).updHead h fun _ =>
         { x with
           entry := { x.entry with
             stats := ⟨0, 0, 0, 0, 0, 0, 0, 0, 0, 0, 0, 0, 0, 0, 0, 0⟩, history := [], dripWarning := false,
             lastDeviation := none }
           iface := { x.iface with glitches := 0 } }).finish .line ⟨.ok, []⟩))) ∧
  ∀ (c : Instr) (p : Port) (r : Request) (s : State) (head : Byte) (rest : List Byte),
    completes c = some (p, r) →
    r ∈ [Request.headRead, .headCalWrite, .headTrimSet, .headLeadSet, .headBlock, .headRelease, .headStatsClear] →
    s.cfg.n ≤ head.toNat → s.holds p r (head :: rest) →
    exec c s = .next ((s.elapse (elapsedOf c)).finish p (bare .badValue))

/-- HEAD_READ on a head below N: section 0 or 1 of its record, 29 or 36 bytes that begin with the head and the
section, no state changed, and no other section; both sections byte by byte, with their codes (R114, R205, chapter
11). -/
def Obligations.HeadReadsReturnASection : Prop :=
  (∀ (dt : Nat) (p : Port) (s : State) (h : HeadId) (head : Byte), head.toNat = h.val → h.val < s.cfg.n →
    (∀ rest, rest = [] ∨ rest = [0] → s.holds p .headRead (head :: rest) →
      exec (.headRead dt p) s = .next ((s.elapse dt).finish p ⟨.ok, headStateBytes h (s.head h)⟩)) ∧
    (s.holds p .headRead [head, 1] →
      exec (.headRead dt p) s = .next ((s.elapse dt).finish p ⟨.ok, headStatsBytes h (s.head h)⟩)) ∧
    (∀ part : Byte, part ≠ 0 → part ≠ 1 → s.holds p .headRead [head, part] →
      exec (.headRead dt p) s = .next ((s.elapse dt).finish p (bare .badValue))) ∧
    (headStateBytes h (s.head h)).length = 29 ∧ (headStateBytes h (s.head h)).take 2 = [head, 0] ∧
    (headStatsBytes h (s.head h)).length = 36 ∧ (headStatsBytes h (s.head h)).take 2 = [head, 1]) ∧
  (∀ (h : HeadId) (x : Head),
    let e := x.entry
    let service : Byte × Byte :=
      match e.service with
      | .inService => (0, 0)
      | .blocked => (1, 0)
      | .autoBlocked .faults => (2, 1)
      | .autoBlocked .valve => (2, 2)
    let bit (set : Prop) [Decidable set] (weight : Nat) : Nat := if set then weight else 0
    headStateBytes h x =
      [BitVec.ofNat 8 h.val, 0, BitVec.ofNat 8 x.seq.state.code, service.1,
        BitVec.ofNat 8 (bit (service.2 ≠ 0) 1 + bit (e.lastDeviation ≠ none) 2 + bit (e.frozen = true) 4 +
          bit (e.dripWarning = true) 8), service.2] ++
      leBytes 4 e.q ++ leBytes 2 (BitVec.ofInt 16 e.trim).toNat ++ leBytes 2 e.epoch.toNat ++ leBytes 2 e.l16 ++
      [BitVec.ofNat 8 e.faults, BitVec.ofNat 8 e.suspect, BitVec.ofNat 8 e.history.length] ++
      ((List.range 8).map fun i => ((e.history[i]?).map fun o => BitVec.ofNat 8 o.code).getD 0) ++
      leBytes 2 (BitVec.ofInt 16 (e.lastDeviation.getD 0)).toNat) ∧
  (∀ (h : HeadId) (x : Head),
    let k := x.entry.stats
    headStatsBytes h x =
      [BitVec.ofNat 8 h.val, 1] ++
      leBytes 2 k.fillsStarted.toNat ++ leBytes 2 k.recordsMade.toNat ++ leBytes 2 k.emptyPockets.toNat ++
      leBytes 2 k.ok.toNat ++ leBytes 2 k.outOfTol.toNat ++ leBytes 2 k.short.toNat ++ leBytes 2 k.overrun.toNat ++
      leBytes 2 k.noFlow.toNat ++ leBytes 2 k.noPressure.toNat ++ leBytes 2 k.burst.toNat ++ leBytes 2 k.valve.toNat ++
      leBytes 2 k.aborted.toNat ++ leBytes 2 k.notFilled.toNat ++ leBytes 2 k.reportsApplied.toNat ++
      leBytes 2 k.reportsNotApplied.toNat ++ leBytes 2 k.dripTotal.toNat ++ leBytes 2 x.iface.glitches.toNat) ∧
  [FillState.idle, .armed, .pressurizing, .pressurized, .fillFast, .fillSlow, .held, .settle, .snift, .discharge,
    .pass].map FillState.code = [0, 1, 2, 3, 4, 5, 6, 7, 8, 9, 10] ∧
  [FillOutcome.ok, .outOfTol, .short, .overrun, .noFlow, .noPressure, .burst, .valve, .aborted, .notFilled].map
    FillOutcome.code = [1, 2, 3, 4, 5, 6, 7, 8, 9, 10]

/-- What one record makes of a head's record: the fault count by outcome, the auto-block by threshold and by VALVE,
the history with its newest entry first and at most 8, the suspect count one lower, the counters one higher, and the
calibration as it was (R97, R98, R99, R100, R101, R102). -/
def Obligations.RecordsMoveTheHeadTable : Prop :=
  ∀ (o : FillOutcome) (threshold : Nat) (e : HeadRecord),
    let t := e.recorded o threshold
    let up (c : U16) : U16 := if c = 65535 then 65535 else c + 1
    let made := { e.stats with recordsMade := up e.stats.recordsMade }
    (o ∈ [FillOutcome.short, .overrun, .noFlow, .noPressure, .burst, .valve] → t.faults = min (e.faults + 1) 8) ∧
    (o = .ok ∨ o = .outOfTol → t.faults = 0) ∧
    (o = .aborted ∨ o = .notFilled → t.faults = e.faults) ∧
    (o ≠ .valve → t.service = if e.service = .inService ∧ threshold ≤ t.faults then .autoBlocked .faults else e.service) ∧
    (o = .valve → t.service = if e.service = .blocked then .blocked else .autoBlocked .valve) ∧
    (t.history.head? = some o ∧ t.history.length = min (e.history.length + 1) 8 ∧
      ∀ i, i < 7 → t.history[i + 1]? = e.history[i]?) ∧
    t.suspect = e.suspect - 1 ∧
    (o = .ok → t.stats = { made with ok := up e.stats.ok }) ∧
    (o = .outOfTol → t.stats = { made with outOfTol := up e.stats.outOfTol }) ∧
    (o = .short → t.stats = { made with short := up e.stats.short }) ∧
    (o = .overrun → t.stats = { made with overrun := up e.stats.overrun }) ∧
    (o = .noFlow → t.stats = { made with noFlow := up e.stats.noFlow }) ∧
    (o = .noPressure → t.stats = { made with noPressure := up e.stats.noPressure }) ∧
    (o = .burst → t.stats = { made with burst := up e.stats.burst }) ∧
    (o = .valve → t.stats = { made with valve := up e.stats.valve }) ∧
    (o = .aborted → t.stats = { made with aborted := up e.stats.aborted }) ∧
    (o = .notFilled → t.stats = { made with notFilled := up e.stats.notFilled }) ∧
    (t.q = e.q ∧ t.trim = e.trim ∧ t.frozen = e.frozen ∧ t.epoch = e.epoch ∧ t.l16 = e.l16)

/-- TUNING_WRITE, in every mode: the block its bytes carry is stored with every field brought into its range, the
nearer end for one outside it, and answered; a lowered trim limit clamps every trim that exceeds it and moves its
epoch, a lowered threshold blocks every head in service at or above it with one HEAD_BLOCKED, and nothing else changes
(R108, R109, R110, R182). -/
def Obligations.TuningWritesBindEveryHead : Prop :=
  (∀ l0 l1 threshold turns drip t0 t1 : Byte,
    let new := tuningOf [l0, l1, threshold, turns, drip, t0, t1]
    new.trimLimit = min (l0.toNat + 256 * l1.toNat) 500 ∧ new.blockThreshold = max 1 (min threshold.toNat 8) ∧
    new.suspectTurns = min turns.toNat 3 ∧ new.dripLimit = drip.toNat ∧
    new.traceThreshold = max 1 (min (t0.toNat + 256 * t1.toNat) 256)) ∧
  ∀ (dt : Nat) (s : State) (ops : List Byte), ops.length = 7 → s.holds .line .tuningWrite ops →
    let new := tuningOf ops
    let lowered := new.trimLimit < s.tuning.trimLimit
    let tightened := new.blockThreshold < s.tuning.blockThreshold
    ∃ t, exec (.tuningWrite dt) s = .next t ∧ t.tuning = new ∧ t.line.buffer = some ⟨.ok, tuningBytes new⟩ ∧
      (new.trimLimit ≤ 500 ∧ (1 ≤ new.blockThreshold ∧ new.blockThreshold ≤ 8) ∧ new.suspectTurns ≤ 3 ∧
        new.dripLimit ≤ 255 ∧ (1 ≤ new.traceThreshold ∧ new.traceThreshold ≤ 256)) ∧
      (∀ h,
        let e := (s.head h).entry
        let moved := lowered ∧ new.trimLimit < e.trim.natAbs
        let blocked := tightened ∧ e.service = .inService ∧ new.blockThreshold ≤ e.faults
        t.head h = { s.head h with entry := { e with
          trim := if moved then (if e.trim < 0 then -(new.trimLimit : Int) else new.trimLimit) else e.trim
          epoch := if moved then e.epoch + 1 else e.epoch
          service := if blocked then .autoBlocked .faults else e.service } }) ∧
      ((∃ h, tightened ∧ (s.head h).entry.service = .inService ∧ new.blockThreshold ≤ (s.head h).entry.faults) →
        t.line.events = s.line.events ||| 0x0004) ∧
      ((¬ ∃ h, tightened ∧ (s.head h).entry.service = .inService ∧ new.blockThreshold ≤ (s.head h).entry.faults) →
        t.line.events = s.line.events) ∧
      t = { s.elapse dt with tuning := new, heads := t.heads, line := t.line }

/-- The epoch follows the calibration: a command other than power-on that changes a head's Q or trim moves its epoch
by one, none moves it by more, and only HEAD_CAL_WRITE, HEAD_TRIM_SET, TUNING_WRITE and LEVEL_REPORT move it (R105).
-/
def Obligations.EpochsFollowTheCalibration : Prop :=
  ∀ (c : Instr) (s t : State), exec c s = .next t → (∀ dt, c ≠ .powerOnReset dt) → ∀ h,
    let before := (s.head h).entry
    let after := (t.head h).entry
    (calibration after ≠ calibration before → after.epoch = before.epoch + 1) ∧
    (after.epoch = before.epoch ∨ after.epoch = before.epoch + 1) ∧
    (after.epoch ≠ before.epoch → ∃ dt, c = .headCalWrite dt ∨ c = .headTrimSet dt ∨ c = .tuningWrite dt ∨
      c = .levelReport dt)

/-! ## Recipes and the stack (chapter 6) -/

/-- RECIPE_WRITE, RECIPE_ERASE and RECIPE_READ of a slot from 0 to 7: the refusals in their order, what is stored or
erased, and the report with the stack indication and the plan count, which is the number of heads from ARMED to
DISCHARGE whose plan names the slot (R118, R119, R120, R121); a slot above 7 is refused. The bytes carry a recipe
exactly when they are those of one within its ranges, its windows at least 50 tenths apart (R116, R117). -/
def Obligations.RecipeRequestsGuardTheSlots : Prop :=
  (∀ (dt : Nat) (s : State) (b : Byte),
    let guarded := s.mode = .production ∨ s.mode = .drain
    let refuse (status : Status) : State := (s.elapse dt).finish .line (bare status)
    let plans (slot : Slot) (h : HeadId) : Prop :=
      (s.head h).seq.state ∈ [FillState.armed, .pressurizing, .pressurized, .fillFast, .fillSlow, .held, .settle, .snift,
        .discharge] ∧ (s.head h).seq.plan.map Plan.slot = some slot
    let stacked (slot : Slot) : Prop := ∃ e ∈ s.stack.entries, e.slot = slot
    (∀ (slot : Slot) (rest : List Byte), b.toNat = slot.val → rest.length = 31 →
      s.holds .line .recipeWrite (b :: rest) →
      (recipeOf (b :: rest) 1 = none → exec (.recipeWrite dt) s = .next (refuse .badValue)) ∧
      ∀ r, recipeOf (b :: rest) 1 = some r →
        (guarded → (stacked slot ∨ ∃ h, plans slot h) → exec (.recipeWrite dt) s = .next (refuse .inUse)) ∧
        (¬ guarded ∨ ¬ (stacked slot ∨ ∃ h, plans slot h) → exec (.recipeWrite dt) s = .next
          (({ s.elapse dt with recipes := s.recipes.set slot.val (some r) }).finish .line ⟨.ok, [b]⟩))) ∧
    (∀ slot : Slot, b.toNat = slot.val → s.holds .line .recipeErase [b] →
      (stacked slot → exec (.recipeErase dt) s = .next (refuse .inUse)) ∧
      (¬ stacked slot →
        (guarded → (∃ h, plans slot h) → exec (.recipeErase dt) s = .next (refuse .inUse)) ∧
        (¬ guarded ∨ ¬ (∃ h, plans slot h) → exec (.recipeErase dt) s = .next
          (({ s.elapse dt with recipes := s.recipes.set slot.val none }).finish .line ⟨.ok, [b]⟩)))) ∧
    (∀ slot : Slot, b.toNat = slot.val → s.holds .line .recipeRead [b] →
      (s.recipes[slot.val] = none → exec (.recipeRead dt) s = .next (refuse .notFound)) ∧
      ∀ r, s.recipes[slot.val] = some r →
        exec (.recipeRead dt) s = .next ((s.elapse dt).finish .line
          ⟨.ok, [b] ++ recipeBytes r ++ [if stacked slot then 1 else 0,
            BitVec.ofNat 8 ((List.finRange 128).filter fun h => decide (plans slot h)).length]⟩)) ∧
    (8 ≤ b.toNat →
      (∀ rest : List Byte, s.holds .line .recipeWrite (b :: rest) → exec (.recipeWrite dt) s = .next (refuse .badValue)) ∧
      (s.holds .line .recipeErase [b] → exec (.recipeErase dt) s = .next (refuse .badValue)) ∧
      (s.holds .line .recipeRead [b] → exec (.recipeRead dt) s = .next (refuse .badValue)))) ∧
  (∀ (b : Byte) (rest : List Byte) (r : Recipe), rest.length = 31 →
    (recipeOf (b :: rest) 1 = some r ↔ rest = recipeBytes r ∧ r.acceptable = true)) ∧
  ∀ r : Recipe, r.acceptable = true ↔
    (500 ≤ r.vT ∧ r.vT ≤ 30000) ∧ r.vSlow ≤ r.vT ∧ (1 ≤ r.tolerance ∧ r.tolerance ≤ 500) ∧ r.deadBand ≤ 100 ∧
    (r.deadBand < r.grossLimit ∧ r.grossLimit ≤ 2000) ∧ r.trimGain ≤ 6 ∧ r.leadGain ≤ 6 ∧ r.oMax ≤ 255 ∧
    (20 ≤ r.noFlow ∧ r.noFlow ≤ 2000) ∧ r.settle ≤ 2000 ∧ (20 ≤ r.snift ∧ r.snift ≤ 2000) ∧
    50 ≤ r.aPress ∧ r.aPress + 50 ≤ r.aFill ∧ r.aFill + 50 ≤ r.aClose ∧ r.aClose + 50 ≤ r.aSnift ∧
    r.aSnift + 50 ≤ r.aRelease ∧ r.aRelease ≤ 3550

/-- STACK_PUSH, STACK_POP and STACK_REPLACE: the refusals in their order, the entries after each, the spill of a full
stack, and the stack in the answer as it then stands (R125, R126, R127). -/
def Obligations.StackRequestsChangeTheTop : Prop :=
  ∀ (dt : Nat) (s : State),
    let refuse (status : Status) : State := (s.elapse dt).finish .line (bare status)
    let accept (t : State) : State := t.finish .line ⟨.ok, stackBytes t⟩
    let withEntries (l : List StackEntry) : State := { s.elapse dt with stack := ⟨l, s.stack.spills⟩ }
    (∀ (b : Byte) (ops : List Byte) (count : Option Nat),
      (ops = [b] ∧ count = none ∨
        ∃ c0 c1 : Byte, ops = [b, c0, c1] ∧ count = some (c0.toNat + 256 * c1.toNat)) →
      s.holds .line .stackPush ops →
      (8 ≤ b.toNat ∨ count = some 0 → exec (.stackPush dt) s = .next (refuse .badValue)) ∧
      ∀ slot : Slot, b.toNat = slot.val → count ≠ some 0 →
        (s.recipes[slot.val] = none → exec (.stackPush dt) s = .next (refuse .notFound)) ∧
        (s.recipes[slot.val] ≠ none → s.stack.entries.length < s.cfg.depth →
          exec (.stackPush dt) s = .next (accept (withEntries (⟨slot, count⟩ :: s.stack.entries)))) ∧
        (s.recipes[slot.val] ≠ none → s.cfg.depth ≤ s.stack.entries.length →
          exec (.stackPush dt) s = .next (accept
            (({ s.elapse dt with
              stack :=
                ⟨⟨slot, count⟩ :: s.stack.entries.dropLast,
                  if s.stack.spills = 65535 then 65535 else s.stack.spills + 1⟩ }).raise .stackNotice)))) ∧
    (s.holds .line .stackPop [] →
      (s.stack.entries.length ≤ 1 → exec (.stackPop dt) s = .next (refuse .floor)) ∧
      (2 ≤ s.stack.entries.length →
        exec (.stackPop dt) s = .next (accept (withEntries s.stack.entries.tail)))) ∧
    ∀ b : Byte, s.holds .line .stackReplace [b] →
      (8 ≤ b.toNat → exec (.stackReplace dt) s = .next (refuse .badValue)) ∧
      ∀ slot : Slot, b.toNat = slot.val →
        (s.recipes[slot.val] = none → exec (.stackReplace dt) s = .next (refuse .notFound)) ∧
        (s.recipes[slot.val] ≠ none →
          exec (.stackReplace dt) s = .next (accept (withEntries (⟨slot, none⟩ :: s.stack.entries.tail))))

/-! ## The trace queue (chapter 7) -/

/-- A record handed to the queue takes the next seq, and the next serial unless it is BURST or CLEARED; below 256 it
is stored at the newest end; on a full queue ROLL evicts the oldest for it, which brings the cursors up, and HOLD
loses it; TRACE_LOSS, REJECT_STORED and TRACE_LEVEL follow (R135, R136, R137, R138, R139, R140, R141, R147). -/
def Obligations.QueueNumbersAndStoresRecords : Prop :=
  ∀ (d : RecordDraft) (s : State),
    let q := s.queue
    let t := s.enqueue d
    let named := d.outcome ≠ .burst ∧ d.flags.cleared = false
    let r : TraceRecord := ⟨q.created + 1, if named then some q.nextSerial else none, d⟩
    let full := 256 ≤ q.held.length
    let stored := ¬ full ∨ s.cfg.traceMode = .roll
    let level := stored ∧ s.tuning.traceThreshold ≤ t.queue.held.length
    let reject := stored ∧ d.flags.reject = true
    t.queue.created = q.created + 1 ∧
    t.queue.nextSerial =
      (if ¬ named then q.nextSerial else if q.nextSerial = 4294967295 then 1 else q.nextSerial + 1) ∧
    (¬ full → t.queue.held = q.held ++ [r] ∧ t.queue.evicted = q.evicted ∧ t.queue.lost = q.lost ∧
      t.queue.lineCursor = q.lineCursor ∧ t.queue.inspCursor = q.inspCursor) ∧
    (full → s.cfg.traceMode = .roll →
      t.queue.held = q.held.tail ++ [r] ∧ t.queue.evicted = q.evicted + 1 ∧ t.queue.lost = q.lost ∧
      t.queue.lineCursor = broughtUp (q.created + 1) (q.held.tail ++ [r]) q.lineCursor ∧
      t.queue.inspCursor = broughtUp (q.created + 1) (q.held.tail ++ [r]) q.inspCursor) ∧
    (full → s.cfg.traceMode = .hold →
      t.queue.held = q.held ∧ t.queue.evicted = q.evicted ∧ t.queue.lost = q.lost + 1 ∧
      t.queue.lineCursor = q.lineCursor ∧ t.queue.inspCursor = q.inspCursor) ∧
    (t.queue.matched = q.matched ∧ t.queue.expired = q.expired ∧ t.queue.cleared = q.cleared) ∧
    t.line.events = (s.line.events ||| (if full then 0x0040 else 0)) ||| (if level then 0x0020 else 0) ∧
    t.insp.events = ((s.insp.events ||| (if full then 0x0040 else 0)) ||| (if reject then 0x0080 else 0)) |||
      (if level then 0x0020 else 0) ∧
    t = { s with queue := t.queue, line := t.line, insp := t.insp }

/-- Expiry at a revolution event removes exactly the held records a horizon old, counts them, keeps the others in
their order, keeps every record made at the present revolution, and moves no other counter (R142); a removal brings
the cursors up (R147), and with nothing removed they stay (the model's reading of R147, notes/assumptions/13.md). -/
def Obligations.RevolutionsExpireOldRecords : Prop :=
  ∀ (c : U32) (horizon : Nat) (q : TraceQueue), 1 ≤ horizon →
    let t := q.expire c horizon
    (∀ r, r ∈ t.held ↔ r ∈ q.held ∧ (c - r.body.revolution).toNat < horizon) ∧
    t.held.Sublist q.held ∧
    (∀ r ∈ q.held, r.body.revolution = c → r ∈ t.held) ∧
    t.expired = q.expired + BitVec.ofNat 32 (q.held.length - t.held.length) ∧
    (t.held.length < q.held.length → t.lineCursor = broughtUp q.created t.held q.lineCursor ∧
      t.inspCursor = broughtUp q.created t.held q.inspCursor) ∧
    (t.held.length = q.held.length → t = q) ∧
    t = { q with held := t.held, expired := t.expired, lineCursor := t.lineCursor, inspCursor := t.inspCursor } ∧
    ∀ p, t.nextFor p = (q.held.filter fun r => decide ((c - r.body.revolution).toNat < horizon)).find? fun r =>
      decide ((q.created - r.seq).toNat < (q.created + 1 - q.cursor p).toNat)

/-- TRACE_NEXT, TRACE_REWIND, TRACE_FIND, TRACE_CLEAR and SERIAL_SET: each act on the cursor of the port that sent it,
on the held list or on the next serial, with their refusals in order (R144, R148, R149, R150, R152); and the trace
record byte by byte, absent fields 0 with their presence bit clear (R203, chapter 11). -/
def Obligations.TraceRequestsReadAndClear : Prop :=
  (∀ (dt : Nat) (s : State),
    let q := s.queue
    let withQueue (k : TraceQueue) : State := { s.elapse dt with queue := k }
    let atOrAfterCursor (p : Port) (r : TraceRecord) : Bool :=
      decide ((q.created - r.seq).toNat < (q.created + 1 - q.cursor p).toNat)
    (∀ p, s.holds p .traceNext [] →
      ((∀ r ∈ q.held, atOrAfterCursor p r = false) →
        exec (.traceNext dt p) s = .next ((s.elapse dt).finish p (bare .empty))) ∧
      ∀ before r after, q.held = before ++ r :: after → (∀ x ∈ before, atOrAfterCursor p x = false) →
        atOrAfterCursor p r = true →
        exec (.traceNext dt p) s = .next ((withQueue (q.setCursor p (r.seq + 1))).finish p ⟨.ok, recordBytes r⟩)) ∧
    (∀ p, s.holds p .traceRewind [] →
      exec (.traceRewind dt p) s = .next ((withQueue (q.setCursor p
        (match q.held with | [] => q.created + 1 | r :: _ => r.seq))).finish p ⟨.ok, []⟩)) ∧
    (∀ p (b0 b1 b2 b3 : Byte), s.holds p .traceFind [b0, b1, b2, b3] →
      let serial : U32 := b3 ++ b2 ++ b1 ++ b0
      ((∀ r ∈ q.held, r.serial ≠ some serial) →
        exec (.traceFind dt p) s = .next ((s.elapse dt).finish p (bare .notFound))) ∧
      ∀ before r after, q.held = before ++ r :: after → (∀ x ∈ before, x.serial ≠ some serial) →
        r.serial = some serial →
        exec (.traceFind dt p) s = .next ((s.elapse dt).finish p ⟨.ok, recordBytes r⟩)) ∧
    (s.holds .line .traceClear [] → exec (.traceClear dt) s = .next
      ((withQueue { q with
        held := [], cleared := q.cleared + BitVec.ofNat 32 q.held.length,
        lineCursor := q.created + 1, inspCursor := q.created + 1 }).finish .line
        ⟨.ok, leBytes 2 q.held.length⟩)) ∧
    ∀ b0 b1 b2 b3 : Byte, s.holds .line .serialSet [b0, b1, b2, b3] →
      let serial : U32 := b3 ++ b2 ++ b1 ++ b0
      (s.mode ≠ .setup → exec (.serialSet dt) s = .next ((s.elapse dt).finish .line (bare .wrongMode))) ∧
      (s.mode = .setup → serial = 0 →
        exec (.serialSet dt) s = .next ((s.elapse dt).finish .line (bare .badValue))) ∧
      (s.mode = .setup → serial ≠ 0 → q.held ≠ [] →
        exec (.serialSet dt) s = .next ((s.elapse dt).finish .line (bare .inUse))) ∧
      (s.mode = .setup → serial ≠ 0 → q.held = [] → exec (.serialSet dt) s = .next
        ((withQueue { q with nextSerial := serial }).finish .line ⟨.ok, [b0, b1, b2, b3]⟩))) ∧
  (∀ r : TraceRecord,
    let d := r.body
    let bit (set : Bool) (weight : Nat) : Nat := if set then weight else 0
    recordBytes r =
      [BitVec.ofNat 8 (bit r.serial.isSome 1 + bit d.reason.isSome 2 + bit d.metered.isSome 4 + bit d.close.isSome 8)] ++
      leBytes 4 r.seq.toNat ++ leBytes 4 (r.serial.getD 0).toNat ++
      [BitVec.ofNat 8 d.head.val, BitVec.ofNat 8 d.slot.val] ++ leBytes 2 d.product.toNat ++ leBytes 2 d.vT ++
      leBytes 2 d.epoch.toNat ++
      [BitVec.ofNat 8 d.outcome.code,
        BitVec.ofNat 8 (bit d.flags.suspect 1 + bit d.flags.resumed 2 + bit d.flags.shortSettle 4 +
          bit d.flags.sniftShort 8 + bit d.flags.cleared 16 + bit d.flags.reject 32),
        BitVec.ofNat 8 ((d.reason.map NotFilledReason.code).getD 0)] ++
      leBytes 4 ((d.metered.map Metered.total).getD 0) ++ leBytes 4 ((d.metered.map Metered.vMeter).getD 0) ++
      leBytes 2 ((d.metered.map Metered.pClose).getD 0) ++ leBytes 2 ((d.close.map CloseRecord.angle).getD 0) ++
      leBytes 2 ((d.close.map CloseRecord.duration).getD 0) ++ leBytes 4 d.revolution.toNat) ∧
  [NotFilledReason.blocked, .planRange, .drain, .halt, .setup].map NotFilledReason.code = [1, 2, 3, 4, 5]

/-! ## Level reports (chapter 8) -/

/-- A LEVEL_REPORT on a held serial retires that record alone and brings the cursors up (R143, R147), and teaches its
head: an APPLIED one moves the trim by the rounded step within the limit and the epoch by one, any measured fill
leaves its deviation, one report counter moves, and the answer gives the classification, the head and the trim (R158,
R163, R164, R165, R166, R167). The classification is the first of the seven conditions that holds (R159). -/
def Obligations.MatchedReportsRetireAndTeach : Prop :=
  (∀ (dt : Nat) (s : State) (b0 b1 b2 b3 d0 d1 : Byte) (before after : List TraceRecord) (rec : TraceRecord),
     let serial : U32 := b3 ++ b2 ++ b1 ++ b0
     let deviation : Int := (d1 ++ d0).toInt
     let slot := s.recipes[rec.body.slot.val]
     let e := (s.head rec.body.head).entry
     let c := classifyReport rec.body deviation e slot
     let step : Int := roundHalfAway (deviation * 10000)
       (rec.body.vT * 2 ^ (match slot with | some r => r.trimGain | none => 0))
     let trim : Int :=
       if c = .applied then max (-(s.tuning.trimLimit : Int)) (min s.tuning.trimLimit (e.trim + step)) else e.trim
     let up (n : U16) : U16 := if n = 65535 then 65535 else n + 1
     s.holds .inspection .levelReport [b0, b1, b2, b3, d0, d1] → serial ≠ 0 →
     s.queue.held = before ++ rec :: after → (∀ x ∈ before, x.serial ≠ some serial) → rec.serial = some serial →
     ∃ t, exec (.levelReport dt) s = .next t ∧
       t.queue.held = before ++ after ∧ t.queue.matched = s.queue.matched + 1 ∧
       t.queue = { s.queue with
         held := before ++ after
         matched := s.queue.matched + 1
         lineCursor := broughtUp s.queue.created (before ++ after) s.queue.lineCursor
         inspCursor := broughtUp s.queue.created (before ++ after) s.queue.inspCursor } ∧
       t.head rec.body.head = { s.head rec.body.head with entry := { e with
         trim := trim
         epoch := if c = .applied then e.epoch + 1 else e.epoch
         lastDeviation :=
           if deviation ≠ -32768 ∧ (rec.body.outcome = .ok ∨ rec.body.outcome = .outOfTol) then some deviation
           else e.lastDeviation
         stats :=
           if c = .applied then { e.stats with reportsApplied := up e.stats.reportsApplied }
           else { e.stats with reportsNotApplied := up e.stats.reportsNotApplied } } } ∧
       (∀ j, j ≠ rec.body.head → t.head j = s.head j) ∧
       t.insp = { s.insp with
         slot := none
         buffer := some ⟨.ok, [BitVec.ofNat 8 c.code, BitVec.ofNat 8 rec.body.head.val] ++
           leBytes 2 (BitVec.ofInt 16 trim).toNat⟩ } ∧
       t = { s.elapse dt with queue := t.queue, heads := t.heads, insp := t.insp }) ∧
  ∀ (d : RecordDraft) (deviation : Int) (e : HeadRecord) (slot : Option Recipe),
    let unlearnable := (d.outcome ≠ .ok ∧ d.outcome ≠ .outOfTol) ∨ d.flags.suspect = true ∨ d.flags.resumed = true ∨
      slot = none
    (classifyReport d deviation e slot = .unmeasured ↔ deviation = -32768) ∧
    (classifyReport d deviation e slot = .noLearn ↔ deviation ≠ -32768 ∧ unlearnable) ∧
    ∀ r, slot = some r → ¬ unlearnable → deviation ≠ -32768 →
      (classifyReport d deviation e slot = .stale ↔ d.epoch ≠ e.epoch) ∧
      (classifyReport d deviation e slot = .frozen ↔ d.epoch = e.epoch ∧ e.frozen = true) ∧
      (classifyReport d deviation e slot = .deadBand ↔
        d.epoch = e.epoch ∧ e.frozen = false ∧ deviation.natAbs ≤ r.deadBand) ∧
      (classifyReport d deviation e slot = .gross ↔
        d.epoch = e.epoch ∧ e.frozen = false ∧ r.deadBand < deviation.natAbs ∧ r.grossLimit < deviation.natAbs) ∧
      (classifyReport d deviation e slot = .applied ↔
        d.epoch = e.epoch ∧ e.frozen = false ∧ r.deadBand < deviation.natAbs ∧ deviation.natAbs ≤ r.grossLimit)

/-- A LEVEL_REPORT on a serial that no held record carries: NOT_YET, TOO_LATE or NOT_FOUND by its age behind the last
issued serial, the report-error counter one higher, and nothing else; serial 0 is refused (R154, R156, R157). -/
def Obligations.UnmatchedReportsAreCountedErrors : Prop :=
  ∀ (dt : Nat) (s : State) (b0 b1 b2 b3 d0 d1 : Byte),
    let serial : U32 := b3 ++ b2 ++ b1 ++ b0
    let newest : U32 := if s.queue.nextSerial = 1 then 4294967295 else s.queue.nextSerial - 1
    let age (x : U32) : Nat := (newest - x).toNat
    let error (status : Status) : State :=
      ({ s.elapse dt with
        reportErrors := if s.reportErrors = 65535 then 65535 else s.reportErrors + 1 }).finish .inspection (bare status)
    let oldest := s.queue.held.findSome? TraceRecord.serial
    s.holds .inspection .levelReport [b0, b1, b2, b3, d0, d1] →
    (serial = 0 → exec (.levelReport dt) s = .next ((s.elapse dt).finish .inspection (bare .badValue))) ∧
    (serial ≠ 0 → (∀ r ∈ s.queue.held, r.serial ≠ some serial) →
      (2147483648 ≤ age serial → exec (.levelReport dt) s = .next (error .notYet)) ∧
      (age serial < 2147483648 → (∀ x, oldest = some x → age x < age serial) →
        exec (.levelReport dt) s = .next (error .tooLate)) ∧
      (age serial < 2147483648 → (∃ x, oldest = some x ∧ age serial ≤ age x) →
        exec (.levelReport dt) s = .next (error .notFound)))

/-! ## Modes and configuration (chapter 9) -/

/-- The five mode requests by the table of R171: where each is taken, what readiness asks, what it sets and answers,
and MODE_CHANGE with each change (R171, R172, R173, R175, R176). -/
def Obligations.ModeRequestsFollowTheTable : Prop :=
  ∀ (dt : Nat) (s : State),
    let refuse (status : Status) : Host.Outcome State Fault Refusal :=
      .next ((s.elapse dt).finish .line (bare status))
    let moved (m : Mode) (code : Byte) : Host.Outcome State Fault Refusal :=
      .next (((({ s.elapse dt with mode := m }).raise .modeChange)).finish .line ⟨.ok, [code]⟩)
    let ready := s.tracker.ref = .tracking ∧ s.estop = false
    let draining := ∃ h, (s.head h).seq.state ∈
      [FillState.armed, .pressurizing, .pressurized, .fillFast, .fillSlow, .held, .settle, .snift]
    (s.holds .line .modeProduce [] →
      (s.mode ≠ .setup → exec (.modeProduce dt) s = refuse .wrongMode) ∧
      (s.mode = .setup → ¬ ready → exec (.modeProduce dt) s = refuse .notReady) ∧
      (s.mode = .setup → ready → exec (.modeProduce dt) s = moved .production 1)) ∧
    (s.holds .line .modeDrain [] →
      (s.mode ≠ .production → exec (.modeDrain dt) s = refuse .wrongMode) ∧
      (s.mode = .production → draining → exec (.modeDrain dt) s = moved .drain 2) ∧
      (s.mode = .production → ¬ draining → exec (.modeDrain dt) s = .next
        ((({ ({ s.elapse dt with mode := .drain }).raise .modeChange with mode := .setup }).raise .modeChange).finish
          .line ⟨.ok, [0]⟩))) ∧
    (s.holds .line .modeHalt [] →
      (s.mode = .halt → exec (.modeHalt dt) s = .next ((s.elapse dt).finish .line ⟨.ok, [3]⟩)) ∧
      (s.mode ≠ .halt → exec (.modeHalt dt) s = .next
        (((({ (s.elapse dt).mapBelow (Head.haltEntry (s.now + dt) s.cfg) with mode := .halt }).raise
          .modeChange)).finish .line ⟨.ok, [3]⟩))) ∧
    (s.holds .line .modeResume [] →
      (s.mode ≠ .halt → exec (.modeResume dt) s = refuse .wrongMode) ∧
      (s.mode = .halt → ¬ ready → exec (.modeResume dt) s = refuse .notReady) ∧
      (s.mode = .halt → ready → exec (.modeResume dt) s = moved .production 1)) ∧
    (s.holds .line .modeSetup [] →
      (s.mode ≠ .halt → exec (.modeSetup dt) s = refuse .wrongMode) ∧
      (s.mode = .halt → exec (.modeSetup dt) s = moved .setup 0))

/-- POCKETS_CLEAR: refused in PRODUCTION and DRAIN and while a head snifts; otherwise every head below N in PASS or
DISCHARGE makes a CLEARED record without a serial and is idle, whatever the order of the heads (it is free: the
model's choice, notes/assumptions/7.md), and the others stay (R71, R183). -/
def Obligations.PocketsClearEmptiesThePockets : Prop :=
  ∀ (dt : Nat) (s : State), s.holds .line .pocketsClear [] →
    (s.mode = .production ∨ s.mode = .drain →
      exec (.pocketsClear dt) s = .next ((s.elapse dt).finish .line (bare .wrongMode))) ∧
    (s.mode = .setup ∨ s.mode = .halt → (∃ h, (s.head h).seq.state = .snift) →
      exec (.pocketsClear dt) s = .next ((s.elapse dt).finish .line (bare .headsBusy))) ∧
    (s.mode = .setup ∨ s.mode = .halt → (∀ h, (s.head h).seq.state ≠ .snift) →
      (∀ h, (s.head h).seq.state = .pass ∨ (s.head h).seq.state = .discharge →
        (s.head h).seq.header ≠ none ∧ (s.head h).seq.outcome ≠ none) →
      ∃ t n, exec (.pocketsClear dt) s = .next t ∧
        n = ((List.finRange 128).filter fun h => decide (h.val < s.cfg.n ∧
          ((s.head h).seq.state = .pass ∨ (s.head h).seq.state = .discharge))).length ∧
        t.line.buffer = some ⟨.ok, [BitVec.ofNat 8 n]⟩ ∧ t.queue.created = s.queue.created + BitVec.ofNat 32 n ∧
        t.queue.nextSerial = s.queue.nextSerial ∧ t.mode = s.mode ∧ t.tracker = s.tracker ∧
        (∀ r ∈ t.queue.held, r ∈ s.queue.held ∨ r.serial = none ∧ r.body.flags.cleared = true) ∧
        ∀ h, if h.val < s.cfg.n ∧ ((s.head h).seq.state = .pass ∨ (s.head h).seq.state = .discharge) then
            (t.head h).seq = seqReset
          else t.head h = s.head h)

/-- CONFIG_WRITE: the refusals in their order; N, T, stack depth or trace mode out of range refuses the block, and
every other field takes the nearer end of its range; accepted, the block is stored and answered, the tracker drops its
reference exactly with a new T (its stop clock there is the model's choice, notes/assumptions/10.md) and stops under a
stop timeout already passed (notes/assumptions/11.md), the spills count the entries a lowered depth removes, heads
that come into service start afresh, and the other stores stay (R19, R22, R132, R179, R180). -/
def Obligations.ConfigWritesTakeEffectAtOnce : Prop :=
  (∀ n t0 t1 tolerance s0 s1 depth mode horizon spacing settle h0 h1 : Byte,
    let t := t0.toNat + 256 * t1.toNat
    let taken := (12 ≤ n.toNat ∧ n.toNat ≤ 128) ∧ (1024 ≤ t ∧ t ≤ 32768) ∧ (depth = 2 ∨ depth = 6) ∧
      (mode = 0 ∨ mode = 1)
    configOf [n, t0, t1, tolerance, s0, s1, depth, mode, horizon, spacing, settle, h0, h1] =
      if taken then
        some {
          n := n.toNat
          t := t
          tolerance := min tolerance.toNat 15
          stopTimeout := max 20 (min (s0.toNat + 256 * s1.toNat) 2000)
          depth := depth.toNat
          traceMode := if mode = 1 then .hold else .roll
          horizon := max 1 (min horizon.toNat 15)
          spacing := max 1 spacing.toNat
          valveSettle := max 2 (min settle.toNat 100)
          holdLimit := max 1 (min (h0.toNat + 256 * h1.toNat) 600) }
      else none) ∧
  ∀ (dt : Nat) (s : State) (ops : List Byte), ops.length = 13 → s.holds .line .configWrite ops →
    (s.mode ≠ .setup → exec (.configWrite dt) s = .next ((s.elapse dt).finish .line (bare .wrongMode))) ∧
    (s.mode = .setup → (∃ h : HeadId, h.val < s.cfg.n ∧ (s.head h).seq.state ≠ .idle) →
      exec (.configWrite dt) s = .next ((s.elapse dt).finish .line (bare .headsBusy))) ∧
    (s.mode = .setup → (∀ h : HeadId, h.val < s.cfg.n → (s.head h).seq.state = .idle) →
      (configOf ops = none → exec (.configWrite dt) s = .next ((s.elapse dt).finish .line (bare .badValue))) ∧
      ∀ new, configOf ops = some new →
        let now := s.now + dt
        let retained : Tracker :=
          if new.t = s.cfg.t then s.tracker
          else
            { angle := 0, debt := 0, ref := .unreferenced, slips := 0, indexMark := false,
              revolutions := s.tracker.revolutions,
              motion := if s.tracker.motion = .reversing then .stopped else s.tracker.motion,
              stopStart := if s.tracker.motion = .reversing then now else s.tracker.stopStart,
              revStart := now, timingMark := false, speed := 0 }
        (12 ≤ new.n ∧ new.n ≤ 128) ∧ (1024 ≤ new.t ∧ new.t ≤ 32768) ∧ new.tolerance ≤ 15 ∧
        (20 ≤ new.stopTimeout ∧ new.stopTimeout ≤ 2000) ∧ (new.depth = 2 ∨ new.depth = 6) ∧
        (1 ≤ new.horizon ∧ new.horizon ≤ 15) ∧ (1 ≤ new.spacing ∧ new.spacing ≤ 255) ∧
        (2 ≤ new.valveSettle ∧ new.valveSettle ≤ 100) ∧ (1 ≤ new.holdLimit ∧ new.holdLimit ≤ 600) ∧
        ∃ t, exec (.configWrite dt) s = .next t ∧ t.cfg = new ∧ t.mode = .setup ∧
          t.line.buffer = some ⟨.ok, configBytes new⟩ ∧
          t.tracker =
            (if new.stopTimeout ≠ s.cfg.stopTimeout ∧ retained.motion = .running ∧
                retained.stopStart + new.stopTimeout * 1000 ≤ now then
              { retained with motion := .stopped, speed := 0, timingMark := false }
            else retained) ∧
          (new.depth < s.cfg.depth → new.depth < s.stack.entries.length →
            t.stack = ⟨s.stack.entries.take new.depth, BitVec.ofNat 16
              (min (s.stack.spills.toNat + (s.stack.entries.length - new.depth)) 65535)⟩ ∧
            t.line.events = s.line.events ||| 0x0010) ∧
          (¬ (new.depth < s.cfg.depth ∧ new.depth < s.stack.entries.length) →
            t.stack = s.stack ∧ t.line.events = s.line.events) ∧
          (∀ h : HeadId, s.cfg.n ≤ h.val → h.val < new.n → (s.head h).seq.state = .idle →
            t.head h = { s.head h with iface :=
              { lastPulse := none, glitches := (s.head h).iface.glitches, drips := 0, pressure := (s.head h).psPin,
                filter := none, cmd := ⟨false, false, false, false⟩, settle := ⟨none, none, none, none⟩ } }) ∧
          (∀ h : HeadId, h.val < s.cfg.n ∨ new.n ≤ h.val → (s.head h).seq.state = .idle → t.head h = s.head h) ∧
          t.recipes = s.recipes ∧ t.queue = s.queue ∧ t.tuning = s.tuning ∧ t.insp = s.insp)

/-! ## The ports (chapters 10 and 11) -/

/-- The fall of select fixes what the frame shifts out: NOT_READY while a request waits, the buffered response, or
filler, with the collision flag as it stands (R189). A response goes out as its status byte with the flag in bit 7,
its data length, its data and the check byte over these, then 0x00 filler for as long as the partner clocks; NOT_READY
as a response without data; and a frame of filler is 0x00 throughout, which no status byte is (R188, R189, R204). Each
byte goes out most significant bit first (R188). -/
def Obligations.SelectFallFixesTheOutput : Prop :=
  (∀ (dt : Nat) (p : Port) (s : State), (s.port p).frame = none →
    let x := s.port p
    let opened (out : FrameOut) : Host.Outcome State Fault Refusal :=
      .next ((s.elapse dt).updPort p fun _ => { x with frame := some out })
    (x.slot ≠ none → exec (.selectFall dt p) s = opened (.notReady x.collision)) ∧
    (∀ r, x.slot = none → x.buffer = some r → exec (.selectFall dt p) s = opened (.response r x.collision)) ∧
    (x.slot = none → x.buffer = none → exec (.selectFall dt p) s = opened .filler)) ∧
  (∀ (r : Response) (flag : Bool) (n : Nat),
    let body : List Byte :=
      BitVec.ofNat 8 (r.status.code + if flag then 128 else 0) :: BitVec.ofNat 8 r.data.length :: r.data
    (FrameOut.response r flag).shiftedOut n = (body ++ checkByte body :: List.replicate n 0).take n ∧
    (FrameOut.notReady flag).shiftedOut n = (FrameOut.response ⟨.notReady, []⟩ flag).shiftedOut n ∧
    FrameOut.filler.shiftedOut n = List.replicate n 0 ∧ (FrameOut.response r flag).byteAt 0 ≠ 0) ∧
  (∀ (out : FrameOut) (i j : Nat), j < 8 → out.bitAt (8 * i + j) = (out.byteAt i).getMsbD j) ∧
  (∀ (out : FrameOut) (n : Nat), out.shiftedOut n = (List.range n).map out.byteAt) ∧
  [Status.ok, .notReady, .badCheck, .badFrame, .unknownRequest, .notPermitted, .wrongMode, .badValue, .inUse, .notFound,
    .tooLate, .notYet, .floor, .headsBusy, .empty].map Status.code = [1, 2, 3, 4, 5, 6, 7, 8, 9, 10, 11, 12, 13, 14, 15]

/-- The end of a frame: the clocks make whole bytes, eight each, first bit highest, and a group cut off is no byte; a
response shifted out whole is delivered and the flag it showed cleared; then an empty frame does nothing, a malformed
one and one with a wrong check byte are counted and raise PORT_ERROR, a good one on a port that is not free collides,
and on a free port each is answered or the request is taken into the slot (R188, R190, R192, R193). The codes of the
requests and which port permits which (R196, "Request codes"). -/
def Obligations.FrameEndsDeliverThenTakeTheRequest : Prop :=
  (∀ (bytes : List Byte) (cut : List Bool), cut.length < 8 →
    shiftedIn (bytes.flatMap (fun b => (List.range 8).map b.getMsbD) ++ cut) = bytes) ∧
  (∀ (dt : Nat) (p : Port) (s : State) (out : FrameOut) (bits : List Bool), (s.port p).frame = some out →
    let bytes := shiftedIn bits
    let x := s.port p
    let y : PortState :=
      match out with
      | .response r flag =>
        if r.data.length + 3 ≤ bytes.length then
          { x with frame := none, buffer := none, collision := if flag then false else x.collision }
        else { x with frame := none }
      | .notReady _ => { x with frame := none }
      | .filler => { x with frame := none }
    let free := y.slot = none ∧ y.buffer = none
    let up (c : U16) : U16 := if c = 65535 then 65535 else c + 1
    let becomes (z : PortState) : State := (s.elapse dt).updPort p fun _ => z
    let erred (z : PortState) : Host.Outcome State Fault Refusal := .next ((becomes z).raiseOn p .portError)
    (bytes = [] → exec (.frameEnd dt p bits) s = .next (becomes y)) ∧
    ((bytes.length = 1 ∨ ∃ code len rest, bytes = code :: len :: rest ∧
        (48 < len.toNat ∨ rest.length < len.toNat + 1)) →
      (free → exec (.frameEnd dt p bits) s =
        erred { y with frameErrors := up y.frameErrors, buffer := some ⟨.badFrame, []⟩ }) ∧
      (¬ free → exec (.frameEnd dt p bits) s = erred { y with frameErrors := up y.frameErrors })) ∧
    ∀ (code len check : Byte) (operands extra : List Byte), len.toNat ≤ 48 → operands.length = len.toNat →
      bytes = code :: len :: (operands ++ check :: extra) →
      (check ≠ checkByte (code :: len :: operands) →
        (free → exec (.frameEnd dt p bits) s =
          erred { y with checkErrors := up y.checkErrors, buffer := some ⟨.badCheck, []⟩ }) ∧
        (¬ free → exec (.frameEnd dt p bits) s = erred { y with checkErrors := up y.checkErrors })) ∧
      (check = checkByte (code :: len :: operands) →
        (¬ free → exec (.frameEnd dt p bits) s =
          erred { y with collision := true, collisions := up y.collisions }) ∧
        (free →
          (requestOf code = none → exec (.frameEnd dt p bits) s =
            .next (becomes { y with buffer := some ⟨.unknownRequest, []⟩ })) ∧
          ∀ r, requestOf code = some r →
            (permits p r = false → exec (.frameEnd dt p bits) s =
              .next (becomes { y with buffer := some ⟨.notPermitted, []⟩ })) ∧
            (permits p r = true → exec (.frameEnd dt p bits) s =
              .next (becomes { y with slot := some ⟨r, operands⟩ }))))) ∧
  (∀ (code : Byte) (r : Request), requestOf code = some r ↔ (code, r) ∈
    [((0x00 : Byte), Request.nop), (0x01, .identify), (0x02, .status), (0x03, .eventsRead), (0x04, .eventsMask),
     (0x10, .modeProduce), (0x11, .modeDrain), (0x12, .modeHalt), (0x13, .modeResume), (0x14, .modeSetup),
     (0x15, .restart), (0x16, .configWrite), (0x17, .configRead), (0x18, .tuningWrite), (0x19, .tuningRead),
     (0x1A, .angleRearm), (0x1B, .pocketsClear), (0x20, .recipeWrite), (0x21, .recipeRead), (0x22, .recipeErase),
     (0x24, .stackPush), (0x25, .stackPop), (0x26, .stackReplace), (0x27, .stackRead), (0x30, .headRead),
     (0x31, .headCalWrite), (0x32, .headTrimSet), (0x33, .headLeadSet), (0x34, .headBlock), (0x35, .headRelease),
     (0x36, .headStatsClear), (0x40, .traceStatus), (0x41, .traceNext), (0x42, .traceFind), (0x43, .traceRewind),
     (0x44, .traceClear), (0x45, .serialSet), (0x50, .levelReport)]) ∧
  ∀ r : Request,
    (permits .line r = true ↔ r ≠ .levelReport) ∧
    (permits .inspection r = true ↔ r ∈ [Request.nop, .identify, .status, .eventsRead, .eventsMask, .headRead,
      .traceStatus, .traceNext, .traceFind, .traceRewind, .levelReport])

/-- The check byte is the remainder over GF(2) of the covered bytes, as one polynomial with the first bit of the first
byte highest, times x⁸, divided by x⁸ + x² + x + 1 (R191). -/
def Obligations.CheckByteIsThePolynomialRemainder : Prop :=
  ∀ bytes : List Byte,
    let ofByte (b : Byte) : Polynomial (ZMod 2) :=
      ∑ i : Fin 8, if b.getLsb i then Polynomial.X ^ i.val else 0
    let dividend : Polynomial (ZMod 2) := bytes.foldl (fun acc b => acc * Polynomial.X ^ 8 + ofByte b) 0
    ofByte (checkByte bytes) =
      (dividend * Polynomial.X ^ 8) %ₘ (Polynomial.X ^ 8 + Polynomial.X ^ 2 + Polynomial.X + 1)

/-- A raised event sets its bit on each port that keeps the kind and on no other, and in PULSE gives a pulse exactly
when its masked bit was clear; in LEVEL the output follows the masked status (R197, R198, R199). -/
def Obligations.RaisedEventsSetBitsAndDriveAttn : Prop :=
  ∀ (k : EventKind) (p : Port) (s : State),
    let x := s.port p
    let y := (s.raise k).port p
    (keepsKind p k = false → y = x) ∧
    (keepsKind p k = true → y.events = x.events ||| k.bit ∧
      y = { x with events := y.events, pulse := y.pulse } ∧
      (x.attnMode = .pulse → x.mask &&& k.bit ≠ 0 → x.events &&& k.bit = 0 → y.pulse = some s.now) ∧
      (x.attnMode ≠ .pulse ∨ x.mask &&& k.bit = 0 ∨ x.events &&& k.bit ≠ 0 → y.pulse = x.pulse)) ∧
    (x.attnMode = .level → (x.attn = true ↔ x.events &&& x.mask ≠ 0)) ∧
    (x.attnMode = .pulse → (x.attn = true ↔ x.pulse ≠ none)) ∧
    s.raise k = { s with line := (s.raise k).line, insp := (s.raise k).insp }

/-- EVENTS_READ returns the port's status, mask, mode and counters and clears the status and the counters; EVENTS_MASK
stores the kept bits and the mode and gives the pulse of R199 or ends it; a pulse ends 2 µs after its last cause
(R199, R200, R201), and an ATTN_PULSE_END before that does nothing (the model's choice, notes/assumptions/3.md). -/
def Obligations.EventRequestsReadClearAndMask : Prop :=
  ∀ (dt : Nat) (p : Port) (s : State),
    let x := s.port p
    (s.holds p .eventsRead [] → exec (.eventsRead dt p) s = .next
      (({ (s.elapse dt).updPort p fun _ => { x with events := 0, checkErrors := 0, frameErrors := 0, collisions := 0 } with
          reportErrors := if p = Port.inspection then 0 else s.reportErrors }).finish p
        ⟨.ok, leBytes 2 x.events.toNat ++ leBytes 2 x.mask.toNat ++ [BitVec.ofNat 8 x.attnMode.code] ++
          leBytes 2 x.checkErrors.toNat ++ leBytes 2 x.frameErrors.toNat ++ leBytes 2 x.collisions.toNat ++
          (if p = Port.inspection then leBytes 2 s.reportErrors.toNat else [])⟩)) ∧
    (∀ m0 m1 mode : Byte, s.holds p .eventsMask [m0, m1, mode] →
      let mask : U16 := (m1 ++ m0) &&& (if p = Port.line then 0x017F else 0x01E1)
      let pulsed := (x.events &&& mask &&& ~~~x.mask ≠ 0) ∨ (x.attnMode = .level ∧ x.events &&& mask ≠ 0)
      (1 < mode.toNat → exec (.eventsMask dt p) s = .next ((s.elapse dt).finish p (bare .badValue))) ∧
      (mode = 0 → exec (.eventsMask dt p) s = .next
        (((s.elapse dt).updPort p fun _ => { x with mask := mask, attnMode := .level, pulse := none }).finish p
          ⟨.ok, leBytes 2 mask.toNat ++ [0]⟩)) ∧
      (mode = 1 → exec (.eventsMask dt p) s = .next
        (((s.elapse dt).updPort p fun _ => { x with
            mask := mask, attnMode := .pulse, pulse := if pulsed then some (s.now + dt) else x.pulse }).finish p
          ⟨.ok, leBytes 2 mask.toNat ++ [1]⟩))) ∧
    (∀ start, x.pulse = some start → start + 2 ≤ s.now + dt →
      exec (.attnPulseEnd dt p) s = .next ((s.elapse dt).updPort p fun _ => { x with pulse := none })) ∧
    ((∀ start, x.pulse = some start → s.now + dt < start + 2) →
      exec (.attnPulseEnd dt p) s = .next (s.elapse dt))

/-- What the inspector can do without a LEVEL_REPORT: its frames and its requests touch its own port, its own cursor
and its report-error counter, and nothing else of the part (R149, R196). -/
def Obligations.InspectionTouchesOnlyItsOwn : Prop :=
  ∀ (c : Instr) (s t : State), exec c s = .next t →
    ((∃ dt bits, c = .frameEnd dt .inspection bits) ∨ (∃ dt, c = .selectFall dt .inspection) ∨
      (∃ dt, c = .attnPulseEnd dt .inspection) ∨ ∃ r, completes c = some (.inspection, r) ∧ r ≠ .levelReport) →
    t = { s with
      now := t.now, insp := t.insp, reportErrors := t.reportErrors,
      queue := { s.queue with inspCursor := t.queue.inspCursor } }

/-! ## Laws of the whole part -/

/-- Every step keeps the stack between 1 and its maximum depth, with every entry on a valid slot (R124), and the
account of the trace records: created = held + matched + expired + evicted + cleared + lost, with at most 256 held
(R137, R145). Every step from a state whose held records are fewer than 2³¹ behind the newest, and whose tracker is in
range, keeps the held list in ascending seq and no two held records on one serial (R136, R137). -/
def Obligations.StepKeepsTheStackAndTheTraceAccount : Prop :=
  (∀ s t : State, StackSound s → step s = .next t → StackSound t) ∧
  (∀ s t : State, TraceAccounted s → step s = .next t → TraceAccounted t) ∧
  ∀ s t : State, TrackerInRange s → HeldRecently s → HeldInOrder s → step s = .next t → HeldInOrder t

/-- Every step keeps every head's trim within the trim limit, its lead within 0 to 4080, its history within 8 entries
(R88, R100, R104), and the fault count of every head in service below the block threshold (R98). -/
def Obligations.StepKeepsTheHeadTableInRange : Prop :=
  (∀ s t : State, step s = .next t →
     (TrimsWithinLimit s → TrimsWithinLimit t) ∧ (LeadsBounded s → LeadsBounded t) ∧
     (HistoriesShort s → HistoriesShort t)) ∧
  ∀ s t : State, ServiceBelowThreshold s → step s = .next t → ServiceBelowThreshold t

/-- Every step from a state with the heads at or above N idle keeps the four commands of every head at those of its
fill state, so that at most one valve of a head is open, F only in FILL_FAST and S only in FILL_SLOW (R30). -/
def Obligations.StepKeepsTheValvesWithTheState : Prop :=
  ∀ s t : State, StoppedInSetupAndHalt s → ValvesFollow s → step s = .next t →
    ValvesFollow t ∧ ∀ h,
      [(t.head h).iface.cmd.p, (t.head h).iface.cmd.f, (t.head h).iface.cmd.s, (t.head h).iface.cmd.v].count true ≤ 1 ∧
      ((t.head h).iface.cmd.f = true ↔ (t.head h).seq.state = .fillFast) ∧
      ((t.head h).iface.cmd.s = true ↔ (t.head h).seq.state = .fillSlow)

/-- Every step keeps SETUP and HALT free of fills under way and the heads at or above N idle; with the valves
following their states, P, F and S of every head are then closed in those modes (R37, R66). -/
def Obligations.StepKeepsFillsOutOfSetupAndHalt : Prop :=
  (∀ s t : State, StoppedInSetupAndHalt s → step s = .next t → StoppedInSetupAndHalt t) ∧
  ∀ s : State, StoppedInSetupAndHalt s → ValvesFollow s → s.mode = .setup ∨ s.mode = .halt → ∀ h,
    (s.head h).iface.cmd.p = false ∧ (s.head h).iface.cmd.f = false ∧ (s.head h).iface.cmd.s = false

/-- Every step keeps the recipes acceptable, the calibrations in range and every frozen plan on the chain of R83, and
keeps every fill count from passing its P_close, and below it until the close is taken (R48, R85). -/
def Obligations.StepKeepsThePlansAndTheFillCounts : Prop :=
  (∀ s t : State, PlansSound s → step s = .next t → PlansSound t) ∧
  ∀ s t : State, FillsMeetTheirClose s → step s = .next t → FillsMeetTheirClose t

/-- Every step keeps a BUSY slot beside an empty buffer on each port, and each port's status and mask to its own kinds
(R189, R201). -/
def Obligations.StepKeepsThePortsSound : Prop :=
  ∀ s t : State, step s = .next t → (PortsExclusive s → PortsExclusive t) ∧ (EventsOwn s → EventsOwn t)

/-- Every step keeps the advance angle below T, the debt within floor(T/4), and REVERSING exactly while there is debt
(section 1.1, R3, R4). -/
def Obligations.StepKeepsTheTrackerInRange : Prop :=
  ∀ s t : State, TrackerInRange s → step s = .next t → TrackerInRange t

/-- All these laws hold right after power-on reset. -/
def Obligations.ResetMeetsEveryLaw : Prop :=
  StackSound State.reset ∧ TraceAccounted State.reset ∧ HeldRecently State.reset ∧ HeldInOrder State.reset ∧
  TrimsWithinLimit State.reset ∧ LeadsBounded State.reset ∧
  HistoriesShort State.reset ∧ ServiceBelowThreshold State.reset ∧ ValvesFollow State.reset ∧
  StoppedInSetupAndHalt State.reset ∧ PlansSound State.reset ∧ FillsMeetTheirClose State.reset ∧
  PortsExclusive State.reset ∧ EventsOwn State.reset ∧ TrackerInRange State.reset
end

