-- ==== Sys2Proof/Laws/State.lean ====
section
/-! SUPPORT. One lemma per field per update of the state: what each named operation leaves as it was, and what it
makes of the field it is for. All are simp lemmas, so that no later proof unfolds an update. -/

namespace Sys2Proof.Machine

variable (s : State)

/-! ## elapse -/

@[simp] theorem State.elapse_encA (dt : Nat) : (s.elapse dt).encA = s.encA := rfl
@[simp] theorem State.elapse_encB (dt : Nat) : (s.elapse dt).encB = s.encB := rfl
@[simp] theorem State.elapse_infeed (dt : Nat) : (s.elapse dt).infeed = s.infeed := rfl
@[simp] theorem State.elapse_estop (dt : Nat) : (s.elapse dt).estop = s.estop := rfl
@[simp] theorem State.elapse_tracker (dt : Nat) : (s.elapse dt).tracker = s.tracker := rfl
@[simp] theorem State.elapse_heads (dt : Nat) : (s.elapse dt).heads = s.heads := rfl
@[simp] theorem State.elapse_recipes (dt : Nat) : (s.elapse dt).recipes = s.recipes := rfl
@[simp] theorem State.elapse_stack (dt : Nat) : (s.elapse dt).stack = s.stack := rfl
@[simp] theorem State.elapse_queue (dt : Nat) : (s.elapse dt).queue = s.queue := rfl
@[simp] theorem State.elapse_mode (dt : Nat) : (s.elapse dt).mode = s.mode := rfl
@[simp] theorem State.elapse_cfg (dt : Nat) : (s.elapse dt).cfg = s.cfg := rfl
@[simp] theorem State.elapse_tuning (dt : Nat) : (s.elapse dt).tuning = s.tuning := rfl
@[simp] theorem State.elapse_line (dt : Nat) : (s.elapse dt).line = s.line := rfl
@[simp] theorem State.elapse_insp (dt : Nat) : (s.elapse dt).insp = s.insp := rfl
@[simp] theorem State.elapse_reportErrors (dt : Nat) : (s.elapse dt).reportErrors = s.reportErrors := rfl
@[simp] theorem State.elapse_choices (dt : Nat) : (s.elapse dt).choices = s.choices := rfl
@[simp] theorem State.elapse_pending (dt : Nat) : (s.elapse dt).pending = s.pending := rfl

@[simp] theorem State.elapse_now (dt : Nat) : (s.elapse dt).now = s.now + dt := rfl

/-! ## updHead -/

@[simp] theorem State.updHead_now (h : HeadId) (f : Head → Head) : (s.updHead h f).now = s.now := rfl
@[simp] theorem State.updHead_encA (h : HeadId) (f : Head → Head) : (s.updHead h f).encA = s.encA := rfl
@[simp] theorem State.updHead_encB (h : HeadId) (f : Head → Head) : (s.updHead h f).encB = s.encB := rfl
@[simp] theorem State.updHead_infeed (h : HeadId) (f : Head → Head) : (s.updHead h f).infeed = s.infeed := rfl
@[simp] theorem State.updHead_estop (h : HeadId) (f : Head → Head) : (s.updHead h f).estop = s.estop := rfl
@[simp] theorem State.updHead_tracker (h : HeadId) (f : Head → Head) : (s.updHead h f).tracker = s.tracker := rfl
@[simp] theorem State.updHead_recipes (h : HeadId) (f : Head → Head) : (s.updHead h f).recipes = s.recipes := rfl
@[simp] theorem State.updHead_stack (h : HeadId) (f : Head → Head) : (s.updHead h f).stack = s.stack := rfl
@[simp] theorem State.updHead_queue (h : HeadId) (f : Head → Head) : (s.updHead h f).queue = s.queue := rfl
@[simp] theorem State.updHead_mode (h : HeadId) (f : Head → Head) : (s.updHead h f).mode = s.mode := rfl
@[simp] theorem State.updHead_cfg (h : HeadId) (f : Head → Head) : (s.updHead h f).cfg = s.cfg := rfl
@[simp] theorem State.updHead_tuning (h : HeadId) (f : Head → Head) : (s.updHead h f).tuning = s.tuning := rfl
@[simp] theorem State.updHead_line (h : HeadId) (f : Head → Head) : (s.updHead h f).line = s.line := rfl
@[simp] theorem State.updHead_insp (h : HeadId) (f : Head → Head) : (s.updHead h f).insp = s.insp := rfl
@[simp] theorem State.updHead_reportErrors (h : HeadId) (f : Head → Head) : (s.updHead h f).reportErrors = s.reportErrors := rfl
@[simp] theorem State.updHead_choices (h : HeadId) (f : Head → Head) : (s.updHead h f).choices = s.choices := rfl
@[simp] theorem State.updHead_pending (h : HeadId) (f : Head → Head) : (s.updHead h f).pending = s.pending := rfl

theorem State.head_updHead (h i : HeadId) (f : Head → Head) :
    (s.updHead h f).head i = if h = i then f (s.head h) else s.head i := by
  simp only [State.updHead, State.head, Vector.getElem_set]
  by_cases hi : h = i
  · simp [hi]
  · simp [hi, Fin.val_ne_of_ne hi]

@[simp] theorem State.head_updHead_same (h : HeadId) (f : Head → Head) : (s.updHead h f).head h = f (s.head h) := by
  simp [State.head_updHead]

@[simp] theorem State.head_updHead_other (h i : HeadId) (f : Head → Head) (hi : h ≠ i) :
    (s.updHead h f).head i = s.head i := by
  simp [State.head_updHead, hi]

/-! ## mapHeads -/

@[simp] theorem State.mapHeads_now (f : HeadId → Head → Head) : (s.mapHeads f).now = s.now := by simp only [State.mapHeads]
@[simp] theorem State.mapHeads_encA (f : HeadId → Head → Head) : (s.mapHeads f).encA = s.encA := by simp only [State.mapHeads]
@[simp] theorem State.mapHeads_encB (f : HeadId → Head → Head) : (s.mapHeads f).encB = s.encB := by simp only [State.mapHeads]
@[simp] theorem State.mapHeads_infeed (f : HeadId → Head → Head) : (s.mapHeads f).infeed = s.infeed := by simp only [State.mapHeads]
@[simp] theorem State.mapHeads_estop (f : HeadId → Head → Head) : (s.mapHeads f).estop = s.estop := by simp only [State.mapHeads]
@[simp] theorem State.mapHeads_tracker (f : HeadId → Head → Head) : (s.mapHeads f).tracker = s.tracker := by simp only [State.mapHeads]
@[simp] theorem State.mapHeads_recipes (f : HeadId → Head → Head) : (s.mapHeads f).recipes = s.recipes := by simp only [State.mapHeads]
@[simp] theorem State.mapHeads_stack (f : HeadId → Head → Head) : (s.mapHeads f).stack = s.stack := by simp only [State.mapHeads]
@[simp] theorem State.mapHeads_queue (f : HeadId → Head → Head) : (s.mapHeads f).queue = s.queue := by simp only [State.mapHeads]
@[simp] theorem State.mapHeads_mode (f : HeadId → Head → Head) : (s.mapHeads f).mode = s.mode := by simp only [State.mapHeads]
@[simp] theorem State.mapHeads_cfg (f : HeadId → Head → Head) : (s.mapHeads f).cfg = s.cfg := by simp only [State.mapHeads]
@[simp] theorem State.mapHeads_tuning (f : HeadId → Head → Head) : (s.mapHeads f).tuning = s.tuning := by simp only [State.mapHeads]
@[simp] theorem State.mapHeads_line (f : HeadId → Head → Head) : (s.mapHeads f).line = s.line := by simp only [State.mapHeads]
@[simp] theorem State.mapHeads_insp (f : HeadId → Head → Head) : (s.mapHeads f).insp = s.insp := by simp only [State.mapHeads]
@[simp] theorem State.mapHeads_reportErrors (f : HeadId → Head → Head) : (s.mapHeads f).reportErrors = s.reportErrors := by simp only [State.mapHeads]
@[simp] theorem State.mapHeads_choices (f : HeadId → Head → Head) : (s.mapHeads f).choices = s.choices := by simp only [State.mapHeads]
@[simp] theorem State.mapHeads_pending (f : HeadId → Head → Head) : (s.mapHeads f).pending = s.pending := by simp only [State.mapHeads]

@[simp] theorem State.head_mapHeads (f : HeadId → Head → Head) (h : HeadId) :
    (s.mapHeads f).head h = f h (s.head h) := by
  simp [State.mapHeads, State.head]

/-! ## mapBelow -/

@[simp] theorem State.mapBelow_now (f : Head → Head) : (s.mapBelow f).now = s.now := by simp only [State.mapBelow, State.mapHeads]
@[simp] theorem State.mapBelow_encA (f : Head → Head) : (s.mapBelow f).encA = s.encA := by simp only [State.mapBelow, State.mapHeads]
@[simp] theorem State.mapBelow_encB (f : Head → Head) : (s.mapBelow f).encB = s.encB := by simp only [State.mapBelow, State.mapHeads]
@[simp] theorem State.mapBelow_infeed (f : Head → Head) : (s.mapBelow f).infeed = s.infeed := by simp only [State.mapBelow, State.mapHeads]
@[simp] theorem State.mapBelow_estop (f : Head → Head) : (s.mapBelow f).estop = s.estop := by simp only [State.mapBelow, State.mapHeads]
@[simp] theorem State.mapBelow_tracker (f : Head → Head) : (s.mapBelow f).tracker = s.tracker := by simp only [State.mapBelow, State.mapHeads]
@[simp] theorem State.mapBelow_recipes (f : Head → Head) : (s.mapBelow f).recipes = s.recipes := by simp only [State.mapBelow, State.mapHeads]
@[simp] theorem State.mapBelow_stack (f : Head → Head) : (s.mapBelow f).stack = s.stack := by simp only [State.mapBelow, State.mapHeads]
@[simp] theorem State.mapBelow_queue (f : Head → Head) : (s.mapBelow f).queue = s.queue := by simp only [State.mapBelow, State.mapHeads]
@[simp] theorem State.mapBelow_mode (f : Head → Head) : (s.mapBelow f).mode = s.mode := by simp only [State.mapBelow, State.mapHeads]
@[simp] theorem State.mapBelow_cfg (f : Head → Head) : (s.mapBelow f).cfg = s.cfg := by simp only [State.mapBelow, State.mapHeads]
@[simp] theorem State.mapBelow_tuning (f : Head → Head) : (s.mapBelow f).tuning = s.tuning := by simp only [State.mapBelow, State.mapHeads]
@[simp] theorem State.mapBelow_line (f : Head → Head) : (s.mapBelow f).line = s.line := by simp only [State.mapBelow, State.mapHeads]
@[simp] theorem State.mapBelow_insp (f : Head → Head) : (s.mapBelow f).insp = s.insp := by simp only [State.mapBelow, State.mapHeads]
@[simp] theorem State.mapBelow_reportErrors (f : Head → Head) : (s.mapBelow f).reportErrors = s.reportErrors := by simp only [State.mapBelow, State.mapHeads]
@[simp] theorem State.mapBelow_choices (f : Head → Head) : (s.mapBelow f).choices = s.choices := by simp only [State.mapBelow, State.mapHeads]
@[simp] theorem State.mapBelow_pending (f : Head → Head) : (s.mapBelow f).pending = s.pending := by simp only [State.mapBelow, State.mapHeads]

@[simp] theorem State.head_mapBelow (f : Head → Head) (h : HeadId) :
    (s.mapBelow f).head h = if h.val < s.cfg.n then f (s.head h) else s.head h := by
  simp [State.mapBelow]

/-! ## updPort -/

@[simp] theorem State.updPort_now (p : Port) (f : PortState → PortState) : (s.updPort p f).now = s.now := by cases p <;> rfl
@[simp] theorem State.updPort_encA (p : Port) (f : PortState → PortState) : (s.updPort p f).encA = s.encA := by cases p <;> rfl
@[simp] theorem State.updPort_encB (p : Port) (f : PortState → PortState) : (s.updPort p f).encB = s.encB := by cases p <;> rfl
@[simp] theorem State.updPort_infeed (p : Port) (f : PortState → PortState) : (s.updPort p f).infeed = s.infeed := by cases p <;> rfl
@[simp] theorem State.updPort_estop (p : Port) (f : PortState → PortState) : (s.updPort p f).estop = s.estop := by cases p <;> rfl
@[simp] theorem State.updPort_tracker (p : Port) (f : PortState → PortState) : (s.updPort p f).tracker = s.tracker := by cases p <;> rfl
@[simp] theorem State.updPort_heads (p : Port) (f : PortState → PortState) : (s.updPort p f).heads = s.heads := by cases p <;> rfl
@[simp] theorem State.updPort_recipes (p : Port) (f : PortState → PortState) : (s.updPort p f).recipes = s.recipes := by cases p <;> rfl
@[simp] theorem State.updPort_stack (p : Port) (f : PortState → PortState) : (s.updPort p f).stack = s.stack := by cases p <;> rfl
@[simp] theorem State.updPort_queue (p : Port) (f : PortState → PortState) : (s.updPort p f).queue = s.queue := by cases p <;> rfl
@[simp] theorem State.updPort_mode (p : Port) (f : PortState → PortState) : (s.updPort p f).mode = s.mode := by cases p <;> rfl
@[simp] theorem State.updPort_cfg (p : Port) (f : PortState → PortState) : (s.updPort p f).cfg = s.cfg := by cases p <;> rfl
@[simp] theorem State.updPort_tuning (p : Port) (f : PortState → PortState) : (s.updPort p f).tuning = s.tuning := by cases p <;> rfl
@[simp] theorem State.updPort_reportErrors (p : Port) (f : PortState → PortState) : (s.updPort p f).reportErrors = s.reportErrors := by cases p <;> rfl
@[simp] theorem State.updPort_choices (p : Port) (f : PortState → PortState) : (s.updPort p f).choices = s.choices := by cases p <;> rfl
@[simp] theorem State.updPort_pending (p : Port) (f : PortState → PortState) : (s.updPort p f).pending = s.pending := by cases p <;> rfl

@[simp] theorem State.head_updPort (p : Port) (f : PortState → PortState) (h : HeadId) :
    (s.updPort p f).head h = s.head h := by cases p <;> rfl

@[simp] theorem State.port_updPort_same (p : Port) (f : PortState → PortState) :
    (s.updPort p f).port p = f (s.port p) := by cases p <;> rfl

@[simp] theorem State.port_updPort_other (p q : Port) (f : PortState → PortState) (hpq : p ≠ q) :
    (s.updPort p f).port q = s.port q := by cases p <;> cases q <;> first | rfl | exact absurd rfl hpq

@[simp] theorem State.updPort_line_line (f : PortState → PortState) : (s.updPort .line f).line = f s.line := rfl

@[simp] theorem State.updPort_line_insp (f : PortState → PortState) : (s.updPort .line f).insp = s.insp := rfl

@[simp] theorem State.updPort_inspection_insp (f : PortState → PortState) :
    (s.updPort .inspection f).insp = f s.insp := rfl

@[simp] theorem State.updPort_inspection_line (f : PortState → PortState) :
    (s.updPort .inspection f).line = s.line := rfl

/-! ## raiseOn -/

@[simp] theorem State.raiseOn_now (p : Port) (k : EventKind) : (s.raiseOn p k).now = s.now := by
  unfold State.raiseOn; split <;> simp
@[simp] theorem State.raiseOn_encA (p : Port) (k : EventKind) : (s.raiseOn p k).encA = s.encA := by
  unfold State.raiseOn; split <;> simp
@[simp] theorem State.raiseOn_encB (p : Port) (k : EventKind) : (s.raiseOn p k).encB = s.encB := by
  unfold State.raiseOn; split <;> simp
@[simp] theorem State.raiseOn_infeed (p : Port) (k : EventKind) : (s.raiseOn p k).infeed = s.infeed := by
  unfold State.raiseOn; split <;> simp
@[simp] theorem State.raiseOn_estop (p : Port) (k : EventKind) : (s.raiseOn p k).estop = s.estop := by
  unfold State.raiseOn; split <;> simp
@[simp] theorem State.raiseOn_tracker (p : Port) (k : EventKind) : (s.raiseOn p k).tracker = s.tracker := by
  unfold State.raiseOn; split <;> simp
@[simp] theorem State.raiseOn_heads (p : Port) (k : EventKind) : (s.raiseOn p k).heads = s.heads := by
  unfold State.raiseOn; split <;> simp
@[simp] theorem State.raiseOn_recipes (p : Port) (k : EventKind) : (s.raiseOn p k).recipes = s.recipes := by
  unfold State.raiseOn; split <;> simp
@[simp] theorem State.raiseOn_stack (p : Port) (k : EventKind) : (s.raiseOn p k).stack = s.stack := by
  unfold State.raiseOn; split <;> simp
@[simp] theorem State.raiseOn_queue (p : Port) (k : EventKind) : (s.raiseOn p k).queue = s.queue := by
  unfold State.raiseOn; split <;> simp
@[simp] theorem State.raiseOn_mode (p : Port) (k : EventKind) : (s.raiseOn p k).mode = s.mode := by
  unfold State.raiseOn; split <;> simp
@[simp] theorem State.raiseOn_cfg (p : Port) (k : EventKind) : (s.raiseOn p k).cfg = s.cfg := by
  unfold State.raiseOn; split <;> simp
@[simp] theorem State.raiseOn_tuning (p : Port) (k : EventKind) : (s.raiseOn p k).tuning = s.tuning := by
  unfold State.raiseOn; split <;> simp
@[simp] theorem State.raiseOn_reportErrors (p : Port) (k : EventKind) : (s.raiseOn p k).reportErrors = s.reportErrors := by
  unfold State.raiseOn; split <;> simp
@[simp] theorem State.raiseOn_choices (p : Port) (k : EventKind) : (s.raiseOn p k).choices = s.choices := by
  unfold State.raiseOn; split <;> simp
@[simp] theorem State.raiseOn_pending (p : Port) (k : EventKind) : (s.raiseOn p k).pending = s.pending := by
  unfold State.raiseOn; split <;> simp

@[simp] theorem State.head_raiseOn (p : Port) (k : EventKind) (h : HeadId) : (s.raiseOn p k).head h = s.head h := by
  unfold State.raiseOn; split <;> simp

/-- What raising a kind on a port makes of that port (R197). -/
theorem State.port_raiseOn (p q : Port) (k : EventKind) :
    (s.raiseOn p k).port q = if p = q ∧ keepsKind p k then PortState.take s.now k (s.port q) else s.port q := by
  unfold State.raiseOn
  cases p <;> cases q <;> cases hk : keepsKind _ k <;> simp

/-! ## raise -/

@[simp] theorem State.raise_now (k : EventKind) : (s.raise k).now = s.now := by simp [State.raise]
@[simp] theorem State.raise_encA (k : EventKind) : (s.raise k).encA = s.encA := by simp [State.raise]
@[simp] theorem State.raise_encB (k : EventKind) : (s.raise k).encB = s.encB := by simp [State.raise]
@[simp] theorem State.raise_infeed (k : EventKind) : (s.raise k).infeed = s.infeed := by simp [State.raise]
@[simp] theorem State.raise_estop (k : EventKind) : (s.raise k).estop = s.estop := by simp [State.raise]
@[simp] theorem State.raise_tracker (k : EventKind) : (s.raise k).tracker = s.tracker := by simp [State.raise]
@[simp] theorem State.raise_heads (k : EventKind) : (s.raise k).heads = s.heads := by simp [State.raise]
@[simp] theorem State.raise_recipes (k : EventKind) : (s.raise k).recipes = s.recipes := by simp [State.raise]
@[simp] theorem State.raise_stack (k : EventKind) : (s.raise k).stack = s.stack := by simp [State.raise]
@[simp] theorem State.raise_queue (k : EventKind) : (s.raise k).queue = s.queue := by simp [State.raise]
@[simp] theorem State.raise_mode (k : EventKind) : (s.raise k).mode = s.mode := by simp [State.raise]
@[simp] theorem State.raise_cfg (k : EventKind) : (s.raise k).cfg = s.cfg := by simp [State.raise]
@[simp] theorem State.raise_tuning (k : EventKind) : (s.raise k).tuning = s.tuning := by simp [State.raise]
@[simp] theorem State.raise_reportErrors (k : EventKind) : (s.raise k).reportErrors = s.reportErrors := by simp [State.raise]
@[simp] theorem State.raise_choices (k : EventKind) : (s.raise k).choices = s.choices := by simp [State.raise]
@[simp] theorem State.raise_pending (k : EventKind) : (s.raise k).pending = s.pending := by simp [State.raise]

@[simp] theorem State.head_raise (k : EventKind) (h : HeadId) : (s.raise k).head h = s.head h := by
  simp [State.raise]

/-- What raising a kind makes of each port: a port that keeps the kind takes it (R197). -/
theorem State.port_raise (k : EventKind) (q : Port) :
    (s.raise k).port q = if keepsKind q k then PortState.take s.now k (s.port q) else s.port q := by
  cases q <;> simp [State.raise, State.port_raiseOn]

/-! ## finish -/

@[simp] theorem State.finish_now (p : Port) (r : Response) : (s.finish p r).now = s.now := by simp [State.finish]
@[simp] theorem State.finish_encA (p : Port) (r : Response) : (s.finish p r).encA = s.encA := by simp [State.finish]
@[simp] theorem State.finish_encB (p : Port) (r : Response) : (s.finish p r).encB = s.encB := by simp [State.finish]
@[simp] theorem State.finish_infeed (p : Port) (r : Response) : (s.finish p r).infeed = s.infeed := by simp [State.finish]
@[simp] theorem State.finish_estop (p : Port) (r : Response) : (s.finish p r).estop = s.estop := by simp [State.finish]
@[simp] theorem State.finish_tracker (p : Port) (r : Response) : (s.finish p r).tracker = s.tracker := by simp [State.finish]
@[simp] theorem State.finish_heads (p : Port) (r : Response) : (s.finish p r).heads = s.heads := by simp [State.finish]
@[simp] theorem State.finish_recipes (p : Port) (r : Response) : (s.finish p r).recipes = s.recipes := by simp [State.finish]
@[simp] theorem State.finish_stack (p : Port) (r : Response) : (s.finish p r).stack = s.stack := by simp [State.finish]
@[simp] theorem State.finish_queue (p : Port) (r : Response) : (s.finish p r).queue = s.queue := by simp [State.finish]
@[simp] theorem State.finish_mode (p : Port) (r : Response) : (s.finish p r).mode = s.mode := by simp [State.finish]
@[simp] theorem State.finish_cfg (p : Port) (r : Response) : (s.finish p r).cfg = s.cfg := by simp [State.finish]
@[simp] theorem State.finish_tuning (p : Port) (r : Response) : (s.finish p r).tuning = s.tuning := by simp [State.finish]
@[simp] theorem State.finish_reportErrors (p : Port) (r : Response) : (s.finish p r).reportErrors = s.reportErrors := by simp [State.finish]
@[simp] theorem State.finish_choices (p : Port) (r : Response) : (s.finish p r).choices = s.choices := by simp [State.finish]
@[simp] theorem State.finish_pending (p : Port) (r : Response) : (s.finish p r).pending = s.pending := by simp [State.finish]

@[simp] theorem State.head_finish (p : Port) (r : Response) (h : HeadId) : (s.finish p r).head h = s.head h := by
  simp [State.finish]

/-- A finished request leaves its slot idle and its response in the buffer (R195). -/
@[simp] theorem State.port_finish (p : Port) (r : Response) :
    (s.finish p r).port p = { s.port p with slot := none, buffer := some r } := by
  simp [State.finish]

/-! ## updEntry -/

@[simp] theorem State.updEntry_now (h : HeadId) (f : HeadRecord → HeadRecord) : (s.updEntry h f).now = s.now := rfl
@[simp] theorem State.updEntry_encA (h : HeadId) (f : HeadRecord → HeadRecord) : (s.updEntry h f).encA = s.encA := rfl
@[simp] theorem State.updEntry_encB (h : HeadId) (f : HeadRecord → HeadRecord) : (s.updEntry h f).encB = s.encB := rfl
@[simp] theorem State.updEntry_infeed (h : HeadId) (f : HeadRecord → HeadRecord) : (s.updEntry h f).infeed = s.infeed := rfl
@[simp] theorem State.updEntry_estop (h : HeadId) (f : HeadRecord → HeadRecord) : (s.updEntry h f).estop = s.estop := rfl
@[simp] theorem State.updEntry_tracker (h : HeadId) (f : HeadRecord → HeadRecord) : (s.updEntry h f).tracker = s.tracker := rfl
@[simp] theorem State.updEntry_recipes (h : HeadId) (f : HeadRecord → HeadRecord) : (s.updEntry h f).recipes = s.recipes := rfl
@[simp] theorem State.updEntry_stack (h : HeadId) (f : HeadRecord → HeadRecord) : (s.updEntry h f).stack = s.stack := rfl
@[simp] theorem State.updEntry_queue (h : HeadId) (f : HeadRecord → HeadRecord) : (s.updEntry h f).queue = s.queue := rfl
@[simp] theorem State.updEntry_mode (h : HeadId) (f : HeadRecord → HeadRecord) : (s.updEntry h f).mode = s.mode := rfl
@[simp] theorem State.updEntry_cfg (h : HeadId) (f : HeadRecord → HeadRecord) : (s.updEntry h f).cfg = s.cfg := rfl
@[simp] theorem State.updEntry_tuning (h : HeadId) (f : HeadRecord → HeadRecord) : (s.updEntry h f).tuning = s.tuning := rfl
@[simp] theorem State.updEntry_line (h : HeadId) (f : HeadRecord → HeadRecord) : (s.updEntry h f).line = s.line := rfl
@[simp] theorem State.updEntry_insp (h : HeadId) (f : HeadRecord → HeadRecord) : (s.updEntry h f).insp = s.insp := rfl
@[simp] theorem State.updEntry_reportErrors (h : HeadId) (f : HeadRecord → HeadRecord) : (s.updEntry h f).reportErrors = s.reportErrors := rfl
@[simp] theorem State.updEntry_choices (h : HeadId) (f : HeadRecord → HeadRecord) : (s.updEntry h f).choices = s.choices := rfl
@[simp] theorem State.updEntry_pending (h : HeadId) (f : HeadRecord → HeadRecord) : (s.updEntry h f).pending = s.pending := rfl

@[simp] theorem State.head_updEntry_same (h : HeadId) (f : HeadRecord → HeadRecord) :
    (s.updEntry h f).head h = { s.head h with entry := f (s.head h).entry } := by
  simp [State.updEntry]

@[simp] theorem State.head_updEntry_other (h i : HeadId) (f : HeadRecord → HeadRecord) (hi : h ≠ i) :
    (s.updEntry h f).head i = s.head i := by
  simp [State.updEntry, hi]

/-! ## setEntries -/

@[simp] theorem State.setEntries_now (l : List StackEntry) : (s.setEntries l).now = s.now := rfl
@[simp] theorem State.setEntries_encA (l : List StackEntry) : (s.setEntries l).encA = s.encA := rfl
@[simp] theorem State.setEntries_encB (l : List StackEntry) : (s.setEntries l).encB = s.encB := rfl
@[simp] theorem State.setEntries_infeed (l : List StackEntry) : (s.setEntries l).infeed = s.infeed := rfl
@[simp] theorem State.setEntries_estop (l : List StackEntry) : (s.setEntries l).estop = s.estop := rfl
@[simp] theorem State.setEntries_tracker (l : List StackEntry) : (s.setEntries l).tracker = s.tracker := rfl
@[simp] theorem State.setEntries_heads (l : List StackEntry) : (s.setEntries l).heads = s.heads := rfl
@[simp] theorem State.setEntries_recipes (l : List StackEntry) : (s.setEntries l).recipes = s.recipes := rfl
@[simp] theorem State.setEntries_queue (l : List StackEntry) : (s.setEntries l).queue = s.queue := rfl
@[simp] theorem State.setEntries_mode (l : List StackEntry) : (s.setEntries l).mode = s.mode := rfl
@[simp] theorem State.setEntries_cfg (l : List StackEntry) : (s.setEntries l).cfg = s.cfg := rfl
@[simp] theorem State.setEntries_tuning (l : List StackEntry) : (s.setEntries l).tuning = s.tuning := rfl
@[simp] theorem State.setEntries_line (l : List StackEntry) : (s.setEntries l).line = s.line := rfl
@[simp] theorem State.setEntries_insp (l : List StackEntry) : (s.setEntries l).insp = s.insp := rfl
@[simp] theorem State.setEntries_reportErrors (l : List StackEntry) : (s.setEntries l).reportErrors = s.reportErrors := rfl
@[simp] theorem State.setEntries_choices (l : List StackEntry) : (s.setEntries l).choices = s.choices := rfl
@[simp] theorem State.setEntries_pending (l : List StackEntry) : (s.setEntries l).pending = s.pending := rfl

@[simp] theorem State.setEntries_entries (l : List StackEntry) : (s.setEntries l).stack.entries = l := rfl

@[simp] theorem State.setEntries_spills (l : List StackEntry) : (s.setEntries l).stack.spills = s.stack.spills := rfl

/-! ## setRecipe -/

@[simp] theorem State.setRecipe_now (slot : Slot) (r : Option Recipe) : (s.setRecipe slot r).now = s.now := rfl
@[simp] theorem State.setRecipe_encA (slot : Slot) (r : Option Recipe) : (s.setRecipe slot r).encA = s.encA := rfl
@[simp] theorem State.setRecipe_encB (slot : Slot) (r : Option Recipe) : (s.setRecipe slot r).encB = s.encB := rfl
@[simp] theorem State.setRecipe_infeed (slot : Slot) (r : Option Recipe) : (s.setRecipe slot r).infeed = s.infeed := rfl
@[simp] theorem State.setRecipe_estop (slot : Slot) (r : Option Recipe) : (s.setRecipe slot r).estop = s.estop := rfl
@[simp] theorem State.setRecipe_tracker (slot : Slot) (r : Option Recipe) : (s.setRecipe slot r).tracker = s.tracker := rfl
@[simp] theorem State.setRecipe_heads (slot : Slot) (r : Option Recipe) : (s.setRecipe slot r).heads = s.heads := rfl
@[simp] theorem State.setRecipe_stack (slot : Slot) (r : Option Recipe) : (s.setRecipe slot r).stack = s.stack := rfl
@[simp] theorem State.setRecipe_queue (slot : Slot) (r : Option Recipe) : (s.setRecipe slot r).queue = s.queue := rfl
@[simp] theorem State.setRecipe_mode (slot : Slot) (r : Option Recipe) : (s.setRecipe slot r).mode = s.mode := rfl
@[simp] theorem State.setRecipe_cfg (slot : Slot) (r : Option Recipe) : (s.setRecipe slot r).cfg = s.cfg := rfl
@[simp] theorem State.setRecipe_tuning (slot : Slot) (r : Option Recipe) : (s.setRecipe slot r).tuning = s.tuning := rfl
@[simp] theorem State.setRecipe_line (slot : Slot) (r : Option Recipe) : (s.setRecipe slot r).line = s.line := rfl
@[simp] theorem State.setRecipe_insp (slot : Slot) (r : Option Recipe) : (s.setRecipe slot r).insp = s.insp := rfl
@[simp] theorem State.setRecipe_reportErrors (slot : Slot) (r : Option Recipe) : (s.setRecipe slot r).reportErrors = s.reportErrors := rfl
@[simp] theorem State.setRecipe_choices (slot : Slot) (r : Option Recipe) : (s.setRecipe slot r).choices = s.choices := rfl
@[simp] theorem State.setRecipe_pending (slot : Slot) (r : Option Recipe) : (s.setRecipe slot r).pending = s.pending := rfl

/-! ## setMode -/

@[simp] theorem State.setMode_now (m : Mode) : (s.setMode m).now = s.now := by simp [State.setMode]
@[simp] theorem State.setMode_encA (m : Mode) : (s.setMode m).encA = s.encA := by simp [State.setMode]
@[simp] theorem State.setMode_encB (m : Mode) : (s.setMode m).encB = s.encB := by simp [State.setMode]
@[simp] theorem State.setMode_infeed (m : Mode) : (s.setMode m).infeed = s.infeed := by simp [State.setMode]
@[simp] theorem State.setMode_estop (m : Mode) : (s.setMode m).estop = s.estop := by simp [State.setMode]
@[simp] theorem State.setMode_tracker (m : Mode) : (s.setMode m).tracker = s.tracker := by simp [State.setMode]
@[simp] theorem State.setMode_heads (m : Mode) : (s.setMode m).heads = s.heads := by simp [State.setMode]
@[simp] theorem State.setMode_recipes (m : Mode) : (s.setMode m).recipes = s.recipes := by simp [State.setMode]
@[simp] theorem State.setMode_stack (m : Mode) : (s.setMode m).stack = s.stack := by simp [State.setMode]
@[simp] theorem State.setMode_queue (m : Mode) : (s.setMode m).queue = s.queue := by simp [State.setMode]
@[simp] theorem State.setMode_cfg (m : Mode) : (s.setMode m).cfg = s.cfg := by simp [State.setMode]
@[simp] theorem State.setMode_tuning (m : Mode) : (s.setMode m).tuning = s.tuning := by simp [State.setMode]
@[simp] theorem State.setMode_reportErrors (m : Mode) : (s.setMode m).reportErrors = s.reportErrors := by simp [State.setMode]
@[simp] theorem State.setMode_choices (m : Mode) : (s.setMode m).choices = s.choices := by simp [State.setMode]
@[simp] theorem State.setMode_pending (m : Mode) : (s.setMode m).pending = s.pending := by simp [State.setMode]

@[simp] theorem State.setMode_mode (m : Mode) : (s.setMode m).mode = m := by simp [State.setMode]

@[simp] theorem State.head_setMode (m : Mode) (h : HeadId) : (s.setMode m).head h = s.head h := by
  simp [State.setMode, State.head]

end Sys2Proof.Machine
end

