-- ==== Sys2Proof/Laws/Ops.lean ====
section
/-! SUPPORT. One lemma for each shared operation that says once everything it can do, so that a proof about a command
cites it instead of unfolding the operation. -/

namespace Sys2Proof.Machine

variable (s : State)

/-! ## Heads and ports -/

/-- A change that leaves the head as it was leaves the state as it was. -/
theorem State.updHead_self (h : HeadId) (f : Head → Head) (hf : f (s.head h) = s.head h) : s.updHead h f = s := by
  simp only [State.updHead, hf]
  simp only [State.head]
  rw [Vector.set_getElem_self]

/-- Two changes of one head are one change. -/
@[simp] theorem State.updHead_updHead (h : HeadId) (f g : Head → Head) :
    (s.updHead h f).updHead h g = s.updHead h (g ∘ f) := by
  simp [State.updHead, State.head]

/-- Two states with equal heads at every position have equal heads. -/
theorem State.heads_ext {s t : State} (h : ∀ i, s.head i = t.head i) : s.heads = t.heads := by
  refine Vector.ext fun i hi => ?_
  exact h ⟨i, hi⟩

/-- Some head satisfies `p` exactly when one does. -/
theorem State.anyHead_iff (p : Head → Bool) : s.anyHead p = true ↔ ∃ h, p (s.head h) = true := by
  simp [State.anyHead]

/-- No head satisfies `p`. -/
theorem State.anyHead_eq_false_iff (p : Head → Bool) : s.anyHead p = false ↔ ∀ h, p (s.head h) = false := by
  simp [State.anyHead]

/-- An event is raised on the two ports and touches nothing else. -/
theorem State.raise_eq (k : EventKind) : s.raise k = { s with line := (s.raise k).line, insp := (s.raise k).insp } := by
  cases k <;> rfl

/-! ## Shapes of commands -/

/-- A command on one of the 128 head positions answers a next state. -/
theorem onHead_val (h : HeadId) (f : HeadId → State → State) : onHead h.val f s = .next (f h s) := by
  simp [onHead]

/-- A command on a position the part does not have stops. -/
theorem onHead_ge {h : Nat} (f : HeadId → State → State) (hh : 128 ≤ h) : onHead h f s = .fault (.noSuchHead h) := by
  simp [onHead, Nat.not_lt.mpr hh]

@[simp] theorem State.elapse_holds (dt : Nat) (p : Port) (r : Request) (ops : List Byte) :
    (s.elapse dt).holds p r ops ↔ s.holds p r ops := by
  cases p <;> rfl

/-- A completion with no such request in the slot does nothing. -/
theorem State.complete_of_not_holds {p : Port} {r : Request} (lengths : List Nat)
    (serve : List Byte → State → Response × State) (h : ∀ ops, ¬ s.holds p r ops) :
    s.complete p r lengths serve = s := by
  unfold State.complete
  split
  · rfl
  · rename_i q hq
    rw [if_neg]
    rintro rfl
    exact h q.operands hq

/-- A completion with its request in the slot answers, and frees the slot. -/
theorem State.complete_of_holds {p : Port} {r : Request} {ops : List Byte} (lengths : List Nat)
    (serve : List Byte → State → Response × State) (h : s.holds p r ops) :
    s.complete p r lengths serve =
      if ops.length ∈ lengths then ((serve ops s).2).finish p (serve ops s).1 else s.finish p (bare .badValue) := by
  unfold State.complete
  rw [State.holds] at h
  simp [h]

/-- What a completion can do: nothing, a refusal of the length, or what its block serves. -/
theorem State.complete_cases (p : Port) (r : Request) (lengths : List Nat)
    (serve : List Byte → State → Response × State) :
    s.complete p r lengths serve = s ∨
    ∃ ops, s.holds p r ops ∧
      (ops.length ∉ lengths ∧ s.complete p r lengths serve = s.finish p (bare .badValue) ∨
        ops.length ∈ lengths ∧ s.complete p r lengths serve = ((serve ops s).2).finish p (serve ops s).1) := by
  by_cases h : ∃ ops, s.holds p r ops
  · obtain ⟨ops, h⟩ := h
    refine .inr ⟨ops, h, ?_⟩
    rw [s.complete_of_holds lengths serve h]
    by_cases hl : ops.length ∈ lengths
    · exact .inr ⟨hl, by simp [hl]⟩
    · exact .inl ⟨hl, by simp [hl]⟩
  · exact .inl (s.complete_of_not_holds lengths serve fun ops ho => h ⟨ops, ho⟩)

/-! ## The free order of heads -/

/-- The arranged items are the items, in some order. -/
theorem arrange_perm {α : Type} (n : Nat) (head : α → HeadId) (l : List α) : (arrange n head l).Perm l :=
  List.perm_insertionSort _ l

/-- The items of one event are handed on one at a time, in some order, each once. -/
theorem State.eachInSomeOrder_eq {α : Type} (head : α → HeadId) (l : List α) (f : α → State → State) :
    ∃ (l' : List α) (n : Nat), l'.Perm l ∧ s.eachInSomeOrder head l f = l'.foldl (fun x a => f a x) { s with choices := n } := by
  unfold State.eachInSomeOrder
  split
  · exact ⟨l, s.choices, .refl l, rfl⟩
  · exact ⟨_, s.choices + 1, arrange_perm s.choices head l, rfl⟩

/-- What every item keeps, and no count of choices changes, the whole event keeps. -/
theorem State.eachInSomeOrder_keeps {α : Type} (P : State → Prop) (head : α → HeadId) (l : List α)
    (f : α → State → State) (hf : ∀ a ∈ l, ∀ x, P x → P (f a x)) (hc : ∀ n, P { s with choices := n }) :
    P (s.eachInSomeOrder head l f) := by
  obtain ⟨l', n, perm, h⟩ := s.eachInSomeOrder_eq head l f
  rw [h]
  have hf' : ∀ a ∈ l', ∀ x, P x → P (f a x) := fun a ha => hf a (perm.mem_iff.mp ha)
  have start := hc n
  clear h hc hf perm
  revert start
  generalize { s with choices := n } = x
  induction l' generalizing x with
  | nil => exact id
  | cons a l' ih =>
    intro hx
    exact ih (fun b hb => hf' b (List.mem_cons_of_mem a hb)) _ (hf' a List.mem_cons_self x hx)

/-! ## Mode changes and faults -/

/-- HALT entry does nothing in HALT, and otherwise reaches every head below N and raises MODE_CHANGE. -/
theorem State.enterHalt_cases :
    s.mode = .halt ∧ s.enterHalt = s ∨
    s.mode ≠ .halt ∧ s.enterHalt = (s.mapBelow (Head.haltEntry s.now s.cfg)).setMode .halt := by
  by_cases h : s.mode = .halt
  · exact .inl ⟨h, by simp [State.enterHalt, h]⟩
  · exact .inr ⟨h, by simp [State.enterHalt, h]⟩

/-- The check for the end of a DRAIN does nothing, or moves the mode from DRAIN to SETUP with no head draining. -/
theorem State.drainCheck_cases :
    s.drainCheck = s ∨
    s.mode = .drain ∧ (∀ h, (s.head h).seq.state.drains = false) ∧ s.drainCheck = s.setMode .setup := by
  unfold State.drainCheck
  split
  · rename_i h
    exact .inr ⟨h.1, (s.anyHead_eq_false_iff _).mp h.2, rfl⟩
  · exact .inl rfl

/-- ANGLE_FAULT does nothing in FAULT, and otherwise marks the tracker, raises its event and enters HALT. -/
theorem State.angleFault_cases :
    s.tracker.ref = .fault ∧ s.angleFault = s ∨
    s.tracker.ref ≠ .fault ∧ s.angleFault =
      (({ s with tracker := { s.tracker with ref := .fault, slips := 0, timingMark := false, speed := 0 } }).raise
        .angleFault).enterHalt := by
  by_cases h : s.tracker.ref = .fault
  · exact .inl ⟨h, by simp [State.angleFault, h]⟩
  · exact .inr ⟨h, by simp [State.angleFault, h]⟩

/-! ## The trace queue -/

/-- The cursors alone move in a cursor check. -/
theorem TraceQueue.bringUp_eq (q : TraceQueue) :
    q.bringUp = { q with lineCursor := q.bringUp.lineCursor, inspCursor := q.bringUp.inspCursor } := rfl

/-- What becomes of a record handed to the queue: stored, stored in place of the oldest, or lost. -/
theorem TraceQueue.accept_cases (mode : TraceMode) (d : RecordDraft) (q : TraceQueue) :
    (q.held.length < 256 ∧ q.accept mode d = { q.counted d with held := q.held ++ [q.number d] }) ∨
    (256 ≤ q.held.length ∧ mode = .roll ∧ q.accept mode d =
      ({ q.counted d with held := q.held.drop 1 ++ [q.number d], evicted := q.evicted + 1 }).bringUp) ∨
    (256 ≤ q.held.length ∧ mode = .hold ∧ q.accept mode d = { q.counted d with lost := q.lost + 1 }) := by
  unfold TraceQueue.accept queueCapacity
  by_cases h : q.held.length < 256
  · exact .inl ⟨h, by simp [h]⟩
  · cases mode
    · exact .inr (.inl ⟨by omega, rfl, by simp [h]⟩)
    · exact .inr (.inr ⟨by omega, rfl, by simp [h]⟩)

/-- A record handed over touches the queue and the two ports alone. -/
theorem State.enqueue_eq (d : RecordDraft) :
    s.enqueue d = { s with
      queue := s.queue.accept s.cfg.traceMode d, line := (s.enqueue d).line, insp := (s.enqueue d).insp } := by
  unfold State.enqueue
  simp only []
  split_ifs <;> rfl

/-- Both cursors after a removal are the cursors brought up to what is left (R147). -/
theorem TraceQueue.bringUp_cursors (q : TraceQueue) :
    q.bringUp.lineCursor = broughtUp q.created q.held q.lineCursor ∧
    q.bringUp.inspCursor = broughtUp q.created q.held q.inspCursor := by
  have e : ∀ c, bringUpCursor q.created q.held c = broughtUp q.created q.held c := by
    intro c
    unfold bringUpCursor broughtUp cursorDistance
    cases q.held with
    | cons a l => rfl
    | nil =>
      simp only []
      split
      · rfl
      · rename_i h
        have zero : q.created + 1 - c = 0 :=
          BitVec.eq_of_toNat_eq (Nat.le_zero.mp (Nat.not_lt.mp h))
        exact (sub_eq_zero.mp zero).symm
  exact ⟨e _, e _⟩

/-! ## Boundaries -/

/-- A boundary is reached exactly by a head below N that has it at its local angle (R17, R18). -/
theorem State.mem_reached_iff (h : HeadId) (b : Boundary) :
    (h, b) ∈ s.reached ↔ h.val < s.cfg.n ∧ b ∈ boundariesAt (s.head h).seq (s.localAngle h) := by
  unfold State.reached
  simp only [List.mem_flatMap, List.mem_finRange, true_and]
  constructor
  · rintro ⟨a, ha⟩
    split at ha
    · simp only [List.mem_map, Prod.mk.injEq] at ha
      obtain ⟨b', hb, rfl, rfl⟩ := ha
      exact ⟨‹_›, hb⟩
    · cases ha
  · rintro ⟨hn, hb⟩
    exact ⟨h, by rw [if_pos hn]; exact List.mem_map.mpr ⟨b, hb, rfl⟩⟩

/-- An outcome stands once set, and is taken otherwise (R62). -/
theorem Sequencer.setOutcome_eq (q : Sequencer) (o : FillOutcome) :
    q.setOutcome o = { q with outcome := some (q.outcome.getD o) } := by
  unfold Sequencer.setOutcome
  split
  · rename_i h; rw [h]; rfl
  · rename_i h; rw [h, Option.getD_some, ← h]

/-! ## The clocks of a frame -/

/-- The eight clocks of one byte, most significant bit first, shift in that byte (R188). -/
theorem shiftBits_byte (b : Byte) (rest : List Bool) :
    shiftBits 0 0 ((List.range 8).map b.getMsbD ++ rest) = b :: shiftBits 0 0 rest := by
  have eight : (List.range 8).map b.getMsbD = [b.getMsbD 0, b.getMsbD 1, b.getMsbD 2, b.getMsbD 3, b.getMsbD 4,
    b.getMsbD 5, b.getMsbD 6, b.getMsbD 7] := rfl
  rw [eight]
  simp only [List.cons_append, List.nil_append, shiftBits, Nat.reduceAdd, Nat.reduceEqDiff, if_false, if_true,
    List.cons.injEq, and_true]
  revert b
  decide +kernel

/-- Clocks that do not complete a byte shift none in (R188). -/
theorem shiftBits_cut (cut : List Bool) (register : Byte) (k : Nat) (h : cut.length + k < 8) :
    shiftBits register k cut = [] := by
  induction cut generalizing register k with
  | nil => rfl
  | cons b rest ih =>
    simp only [List.length_cons] at h
    unfold shiftBits
    rw [if_neg (by omega)]
    exact ih _ _ (by omega)

/-! ## Record creation -/

/-- A head with a header and an outcome makes its record and goes idle; one without makes none. -/
theorem State.makeRecord_cases (cleared : Bool) (h : HeadId) :
    ((s.head h).draft h s.tracker.revolutions cleared = none ∧
      s.makeRecord cleared h = s.updHead h (Head.toIdle s.now s.cfg)) ∨
    ∃ d, (s.head h).draft h s.tracker.revolutions cleared = some d ∧
      s.makeRecord cleared h =
        ((((s.enqueue d).updHead h fun x =>
          { x with entry := (s.head h).entry.recorded d.outcome s.tuning.blockThreshold }).raiseIfBlocked
            (s.head h).entry.service ((s.head h).entry.recorded d.outcome s.tuning.blockThreshold).service).updHead h
          (Head.toIdle s.now s.cfg)) := by
  cases hd : (s.head h).draft h s.tracker.revolutions cleared with
  | none => exact .inl ⟨rfl, by simp [State.makeRecord, hd]⟩
  | some d => exact .inr ⟨d, rfl, by simp [State.makeRecord, hd]⟩

end Sys2Proof.Machine
end

