-- ==== Sys2Proof/Tests/Slice0.lean ====
section
/-! SUPPORT. Checks on fixed values, each against the manual's own worked numbers, and one witness for every statement
that has hypotheses: a concrete state that meets them, at the ends of their ranges. -/

namespace Sys2Proof.Tests

open Sys2Proof Sys2Proof.Machine

/-! ## Helpers -/

/-- The state a command answers, or the one after reset where it stops. -/
def ran (r : Host.Outcome State Fault Refusal) : State :=
  match r with
  | .next t => t
  | .fault _ => State.reset
  | .refused _ => State.reset

/-- A state with a request waiting in a port's slot. -/
def asking (p : Port) (r : Request) (ops : List Byte) (s : State) : State :=
  s.updPort p fun x => { x with slot := some ⟨r, ops⟩ }

theorem asking_holds (p : Port) (r : Request) (ops : List Byte) (s : State) : (asking p r ops s).holds p r ops := by
  cases p <;> rfl

/-- The state after reset in a mode. -/
def inMode (m : Mode) : State := { State.reset with mode := m }

/-- The state after reset with the tracker changed. -/
def tracked (f : Tracker → Tracker) : State := { State.reset with tracker := f State.reset.tracker }

/-- The levels at the clocks of a frame that carries these bytes, most significant bit first (R188). -/
def bitsOf (bytes : List Byte) : List Bool := bytes.flatMap fun b => (List.range 8).map b.getMsbD

/-- The recipe, the head record and the plan of the worked case of chapter 4 ("Worked case: head 5, one fill"). -/
def entry5 : HeadRecord := { entryPowerOn with q := 25120, trim := -35, l16 := 200, epoch := 41 }

/-- Its plan. -/
def plan5 : Plan where
  slot := 0
  vT := 5000
  vSlow := 600
  d := 250320800
  epoch := 41
  l16 := 200
  pTarget := 1997
  lead := 13
  pClose := 1984
  pSlow := 240
  pSwitch := 1744
  cPress := 682
  cFill := 1365
  cClose := 6144
  cSnift := 6485
  cRelease := 7509
  noFlow := 150
  settle := 120
  snift := 180
  tolerance := 20
  oMax := 40
  leadGain := 2

/-- Its cycle header. -/
def header5 : CycleHeader := ⟨0, 0, 5000, 41, 7509, true⟩

/-- A sequencer with that plan and header, in a fill state. -/
def cycle5 (st : FillState) : Sequencer := { seqReset with state := st, plan := some plan5, header := some header5 }

/-- A head with that cycle, in a fill state, its commands as the state drives them. -/
def head5 (st : FillState) : Head :=
  { headPowerOn false (allOutputs false) with
    seq := cycle5 st, entry := entry5, iface := { ifaceReset false with cmd := outputsOf st } }

/-- A state with one head replaced. -/
def placed (h : HeadId) (x : Head) (s : State) : State := s.updHead h fun _ => x

/-- The trace record of that cycle ("Worked sequence: head 5 across two corrections"). -/
def draft5 : RecordDraft where
  head := 5
  slot := 0
  product := 0
  vT := 5000
  epoch := 41
  outcome := .ok
  flags := ⟨false, false, false, false, false, false⟩
  reason := none
  metered := some ⟨1995, 4994, 1984⟩
  close := some ⟨3000, 900⟩
  revolution := 300

/-- The same record as the queue holds it. -/
def record5 : TraceRecord := ⟨7205, some 7205, draft5⟩

/-- The state after reset with one record held and every serial up to 7245 issued. -/
def withRecord : State :=
  { State.reset with queue :=
    { queueReset with held := [record5], created := 7245, nextSerial := 7246, lineCursor := 7205, inspCursor := 7206 } }

/-! ## Well-formedness and decoding -/

theorem test_wellformed_refuses_meter_pulse : (Instr.meterPulse 0 128).wellFormed = false := by decide
theorem test_wellformed_refuses_ps_change : (Instr.psPinChange 0 128 true).wellFormed = false := by decide
theorem test_wellformed_refuses_filter : (Instr.pressureFilterExpiry 0 128).wellFormed = false := by decide
theorem test_wellformed_refuses_valve_settle : (Instr.valveSettleExpiry 0 128 .p).wellFormed = false := by decide
theorem test_wellformed_refuses_coil_sense : (Instr.coilSenseChange 0 128 .v true).wellFormed = false := by decide
theorem test_wellformed_refuses_no_flow : (Instr.noFlowExpiry 0 128).wellFormed = false := by decide
theorem test_wellformed_refuses_hold : (Instr.holdExpiry 0 128).wellFormed = false := by decide
theorem test_wellformed_refuses_settle : (Instr.settleTimerExpiry 0 128).wellFormed = false := by decide
theorem test_wellformed_refuses_snift : (Instr.sniftTimerExpiry 0 128).wellFormed = false := by decide
theorem test_wellformed_takes_head_127 : (Instr.meterPulse 0 127).wellFormed = true := by decide
theorem test_no_word_spells_a_command : decodeTableWord 16 0x50 = none := by decide

/-! ## The check byte and the request codes (R191, "Request codes") -/

theorem test_check_byte_of_digits :
    checkByte [0x31, 0x32, 0x33, 0x34, 0x35, 0x36, 0x37, 0x38, 0x39] = 0xF4 := by decide +kernel
theorem test_check_byte_of_status : checkByte [0x02, 0x00] = 0x2A := by decide +kernel
theorem test_check_byte_of_head_read : checkByte [0x30, 0x01, 0x05] = 0xEF := by decide +kernel
theorem test_check_byte_of_nop : checkByte [0x00, 0x00] = 0x00 := by decide +kernel
theorem test_request_codes : requestOf 0x1B = some .pocketsClear ∧ requestOf 0x27 = some .stackRead ∧
    requestOf 0x36 = some .headStatsClear ∧ requestOf 0x50 = some .levelReport ∧ requestOf 0x23 = none := by decide
theorem test_inspector_may_not_push : permits .inspection .stackPush = false ∧ permits .line .levelReport = false := by
  decide

/-! ## Dose planning (chapter 4, worked cases) -/

theorem test_plan_of_head_5 : formPlan 0 defaultRecipe entry5 8192 = some plan5 := by decide
theorem test_plan_case_a : formPlan 0 { defaultRecipe with vT := 30000 } { entry5 with q := 2000, trim := -500 } 8192 =
    none := by decide
theorem test_plan_case_b :
    (formPlan 0 { defaultRecipe with vT := 13107 } { entry5 with q := 2000, trim := 0, l16 := 0 } 8192).map
      (fun p => (p.pTarget, p.pClose, p.pSlow, p.pSwitch)) = some (65535, 65535, 3000, 62535) := by decide
theorem test_plan_above_case_b :
    formPlan 0 { defaultRecipe with vT := 13108 } { entry5 with q := 2000, trim := 0, l16 := 0 } 8192 = none := by decide
theorem test_plan_case_c :
    (formPlan 0 { defaultRecipe with vT := 500, vSlow := 100 } { entry5 with q := 100000, trim := 500, l16 := 4080 }
      8192).map (fun p => (p.pTarget, p.lead, p.pClose, p.pSlow, p.pSwitch)) = some (48, 255, 1, 10, 0) := by decide
theorem test_metered_volume_of_head_5 : meteredVolume 1995 250320800 = 4994 := by decide
theorem test_metered_volume_of_case_c : meteredVolume 61 1050000000 = 641 := by decide
theorem test_metered_volume_of_head_12 : meteredVolume 1999 250000000 = 4998 := by decide
theorem test_lead_learning :
    [learnedLead 200 2 11, learnedLead 200 4 11, learnedLead 200 5 11, learnedLead 200 6 11, learnedLead 200 3 13,
      learnedLead 200 4 14, learnedLead 200 0 0, learnedLead 200 0 300, learnedLead 200 6 250] =
    [194, 198, 199, 200, 201, 202, 0, 4080, 259] := by decide
theorem test_trim_steps :
    [trimStep (-9) 5000 2, trimStep (-4) 5000 2, trimStep 7 5000 2, trimStep 3 30000 6, trimStep 30 5000 2,
      trimStep (-150) 500 0, trimStep 5 3300 1] = [-5, -2, 4, 0, 15, -3000, 8] := by decide
theorem test_trim_is_clamped : clampTrim 300 (290 + 15) = 300 := by decide
theorem test_settle_end_of_head_5 :
    let x := settleEnd { head5 .settle with seq := { cycle5 .settle with fillCount := 1984, overrunCount := 11 } }
    x.seq.outcome = some .ok ∧ x.entry.l16 = 194 ∧ x.entry.epoch = 41 := by decide

/-! ## One step each, against the worked examples -/

/-- R16's two examples at N = 24. -/
theorem test_speed_estimates : roundHalfUp (3600000 * 24) 960 = 90000 ∧ roundHalfUp (3600000 * 24) 1000 = 86400 := by
  decide

/-- "Head boundaries on a 24-head turret": head 5 lies at offset 1706. -/
theorem test_head_offset : headOffset configDefault 5 = 1706 ∧ headOffset configDefault 12 = 4096 := by decide

/-- R2's first row counts forward, and its mirror in reverse. -/
theorem test_first_count_moves_the_angle :
    (ran (exec (.encoderCount 10 true false false) State.reset)).tracker.angle = 1 := by decide
theorem test_reverse_count_makes_debt :
    (ran (exec (.encoderCount 10 false true false) State.reset)).tracker.debt = 1 := by decide

/-- "A jog back and the next index": an arrival at angle 9 is a slip that puts 9 counts of debt, one at 7 after it a
fault. -/
theorem test_first_slip :
    (ran (exec (.indexArrival 0 false) (tracked fun k => { k with ref := .tracking, angle := 9 }))).tracker.debt = 9 := by
  decide
theorem test_second_slip_is_a_fault :
    (ran (exec (.indexArrival 0 false)
      (tracked fun k => { k with ref := .tracking, angle := 7, slips := 1 }))).tracker.ref = .fault := by decide

/-- "Head 5 through one revolution": the 1744th pulse switches, and an edge 9 µs after a pulse is a glitch. -/
theorem test_switch_pulse :
    ((ran (exec (.meterPulse 0 5) (placed 5 { head5 .fillFast with seq := { cycle5 .fillFast with fillCount := 1743 } }
      State.reset))).head 5).seq.state = .fillSlow := by decide
theorem test_glitch :
    ((ran (exec (.meterPulse 9 5) (placed 5 { head5 .fillFast with
      iface := { ifaceReset false with lastPulse := some 0 } } State.reset))).head 5).iface.glitches = 1 := by decide

/-- "A run of faults on head 9": the third fault meets the threshold; NOT_FILLED leaves the count. -/
theorem test_third_fault_blocks :
    (({ entryPowerOn with faults := 2 }).recorded .overrun 3).service = .autoBlocked .faults := by decide
theorem test_not_filled_keeps_the_count : (({ entryPowerOn with faults := 2 }).recorded .notFilled 3).faults = 2 := by
  decide

/-- "Tightening the tuning block": heads 3, 6 and 8. -/
theorem test_tightened_heads :
    let old := tuningDefault
    let new := { tuningDefault with trimLimit := 100, blockThreshold := 2 }
    (({ entryPowerOn with trim := 240, epoch := 17 }).tuned old new).trim = 100 ∧
    (({ entryPowerOn with trim := -150, frozen := true, epoch := 88 }).tuned old new).epoch = 89 ∧
    (({ entryPowerOn with faults := 2 }).tuned old new).service = .autoBlocked .faults := by decide

/-- "The reports": 7205 with −9 is APPLIED and moves the trim from −35 to −40; 7206 was UNMEASURED; +180 is GROSS. -/
theorem test_report_classes :
    classifyReport draft5 (-9) entry5 (some defaultRecipe) = .applied ∧
    classifyReport draft5 (-32768) entry5 (some defaultRecipe) = .unmeasured ∧
    classifyReport draft5 180 entry5 (some defaultRecipe) = .gross ∧
    classifyReport draft5 (-8) { entry5 with epoch := 42 } (some defaultRecipe) = .stale ∧
    classifyReport draft5 (-1) entry5 (some defaultRecipe) = .deadBand := by decide
theorem test_report_moves_the_trim :
    ((ran (exec (.levelReport 0) (asking .inspection .levelReport [0x25, 0x1C, 0, 0, 0xF7, 0xFF]
      (placed 5 (head5 .idle) withRecord)))).head 5).entry.trim = -40 := by decide

/-- "One partner, one port": frame 2 is cut short and collides. -/
theorem test_cut_frame_collides :
    let s := { State.reset with insp := { portPowerOn with
      buffer := some ⟨.ok, recordBytes record5⟩, frame := some (.response ⟨.ok, recordBytes record5⟩ false) } }
    let t := (ran (exec (.frameEnd 0 .inspection
      (bitsOf ([0x42, 0x04, 0x25, 0x1C, 0, 0] ++ [checkByte [0x42, 0x04, 0x25, 0x1C, 0, 0]]))) s)).insp
    t.collision = true ∧ t.collisions = 1 ∧ t.buffer = some ⟨.ok, recordBytes record5⟩ ∧ t.events = 0x0100 := by decide +kernel

/-- R188: eight clocks are a byte, first bit highest, and 7 more are none; a frame of filler is 0x00 throughout, and
after the check byte of a response the filler follows. -/
theorem test_clocks_make_bytes :
    shiftedIn (bitsOf [0x02, 0x80] ++ [true, true, true, true, true, true, true]) = [0x02, 0x80] := by decide
theorem test_filler_follows_a_response :
    (FrameOut.response ⟨.ok, []⟩ false).shiftedOut 5 = [0x01, 0x00, checkByte [0x01, 0x00], 0, 0] ∧
    (FrameOut.filler.shiftedOut 2 = [0, 0]) ∧ (FrameOut.notReady true).byteAt 0 = 0x82 := by decide +kernel

/-- MODE_PRODUCE is refused after reset, where the tracker is UNREFERENCED (R172). -/
theorem test_produce_wants_a_reference :
    (ran (exec (.modeProduce 0) (asking .line .modeProduce [] State.reset))).line.buffer = some ⟨.notReady, []⟩ := by
  decide

/-! ## Witnesses of the hypotheses

`witness_<Name>` meets the hypotheses of `Obligations.<Name>`, clause by clause, at the ends of the ranges. -/

/-- The state after reset with one head replaced by the head of chapter 4, in a fill state. -/
def holding (h : HeadId) (st : FillState) : State := placed h (head5 st) State.reset

/-- The state after reset with the entries of the stack replaced. -/
def stacked (l : List StackEntry) : State := { State.reset with stack := ⟨l, 0⟩ }

theorem witness_StepTakesTheFrontCommand : State.reset.pending = [] := rfl

theorem witness_WellFormedCommandsComplete :
    (Instr.meterPulse 3 127).wellFormed = true ∧ (Instr.meterPulse 3 128).head? = some 128 ∧ (128 : Nat) ≤ 128 := by
  decide

theorem witness_CompletionsAnswerAndFreeTheSlot :
    completes (.nop 0 .inspection) = some (.inspection, .nop) ∧ (∀ ops, ¬ State.reset.holds .inspection .nop ops) ∧
    (asking .inspection .nop [] State.reset).holds .inspection .nop [] ∧
    (asking .inspection .nop [0] State.reset).holds .inspection .nop [0] ∧ [(0 : Byte)].length ∉ Request.nop.lengths :=
  ⟨rfl, nofun, rfl, rfl, by decide⟩

theorem witness_ReadRequestsReportAndChangeNothing :
    (∀ p r, (asking p r [] State.reset).holds p r []) := fun p r => asking_holds p r [] _

theorem witness_BlocksDecodeToWhatTheyEncode :
    (∀ c ∈ [(⟨12, 1024, 0, 20, 2, .roll, 1, 1, 2, 1⟩ : ConfigBlock), ⟨128, 32768, 15, 2000, 6, .hold, 15, 255, 100, 600⟩],
      (12 ≤ c.n ∧ c.n ≤ 128) ∧ (1024 ≤ c.t ∧ c.t ≤ 32768) ∧ c.tolerance ≤ 15 ∧
      (20 ≤ c.stopTimeout ∧ c.stopTimeout ≤ 2000) ∧ (c.depth = 2 ∨ c.depth = 6) ∧ (1 ≤ c.horizon ∧ c.horizon ≤ 15) ∧
      (1 ≤ c.spacing ∧ c.spacing ≤ 255) ∧ (2 ≤ c.valveSettle ∧ c.valveSettle ≤ 100) ∧
      (1 ≤ c.holdLimit ∧ c.holdLimit ≤ 600)) ∧
    (∀ k ∈ [(⟨0, 1, 0, 0, 1⟩ : TuningBlock), ⟨500, 8, 3, 255, 256⟩],
      k.trimLimit ≤ 500 ∧ (1 ≤ k.blockThreshold ∧ k.blockThreshold ≤ 8) ∧ k.suspectTurns ≤ 3 ∧ k.dripLimit ≤ 255 ∧
      (1 ≤ k.traceThreshold ∧ k.traceThreshold ≤ 256)) ∧
    (⟨0, 500, 0, 1, 0, 1, 0, 0, 0, 20, 0, 20, 50, 100, 150, 200, 250, false⟩ : Recipe).acceptable = true ∧
    (⟨65535, 30000, 30000, 500, 100, 2000, 6, 6, 255, 2000, 2000, 2000, 3350, 3400, 3450, 3500, 3550, true⟩ :
      Recipe).acceptable = true := by decide

theorem witness_EitherResetClearsTheCycle :
    ∀ m ∈ [Mode.setup, .halt], (asking .line .restart [] (inMode m)).holds .line .restart [] ∧
      ((inMode m).mode = .setup ∨ (inMode m).mode = .halt) := by
  unfold State.holds; decide

theorem witness_ResetsSetTheStores :
    ∀ m ∈ [Mode.setup, .halt], (asking .line .restart [] (inMode m)).holds .line .restart [] ∧
      ((inMode m).mode = .setup ∨ (inMode m).mode = .halt) := witness_EitherResetClearsTheCycle

theorem witness_ResetsSetThePorts :
    ∀ m, (asking .line .restart [] (inMode m)).holds .line .restart [] ∧ (asking .line .restart [] (inMode m)).mode = m :=
  fun _ => ⟨rfl, rfl⟩

theorem witness_EncoderChangesDecodeToCounts :
    ((false, false), (true, false)) ∈ forwardRows ∧ ((true, false), (false, false)) ∈ reverseRows ∧
    0 < (tracked fun k => { k with debt := 1 }).tracker.debt ∧ State.reset.tracker.debt = 0 ∧
    (tracked fun k => { k with debt := 2047 }).tracker.debt + 1 ≤ State.reset.cfg.t / 4 ∧
    (tracked fun k => { k with debt := 2047, motion := .running }).tracker.motion = .running ∧
    (tracked fun k => { k with debt := 2047, motion := .reversing }).tracker.motion ≠ .running ∧
    State.reset.cfg.t / 4 < (tracked fun k => { k with debt := 2048 }).tracker.debt + 1 := by decide

theorem witness_AdvancesMoveTheAngleForward :
    let last := tracked fun k => { k with ref := .tracking, motion := .running, angle := 8191, speed := 460800000 }
    (((last.encA, last.encB), (true, false)) ∈ forwardRows ∧ last.tracker.debt = 0 ∧ last.tracker.angle < last.cfg.t ∧
      last.tracker.angle + 1 = last.cfg.t ∧ last.tracker.motion ≠ .reversing ∧ last.tracker.ref = .tracking ∧
      8 ≤ last.cfg.t ∧ last.cfg.n ≤ 128 ∧ last.tracker.speed ≤ 460800000) ∧
    ((head5 .held).seq.plan = some plan5 ∧ (head5 .held).seq.state = .held ∧ (head5 .fillSlow).seq.state ≠ .held) ∧
    State.reset.tracker.angle + 1 ≠ State.reset.cfg.t ∧ State.reset.tracker.ref ≠ .tracking := by decide

theorem witness_IndexArrivalsAreTakenByReference :
    (tracked fun k => { k with ref := .fault }).tracker.ref = .fault ∧
    0 < (tracked fun k => { k with debt := 1 }).tracker.debt ∧ State.reset.tracker.ref = .unreferenced ∧
    indexError State.reset.cfg.t 2 = 2 ∧ (2 : Int).natAbs ≤ State.reset.cfg.tolerance ∧
    indexError State.reset.cfg.t 8190 = -2 ∧ State.reset.cfg.tolerance < (3 : Int).natAbs ∧
    indexError State.reset.cfg.t 4096 = -4096 ∧ indexError State.reset.cfg.t 4095 = 4095 ∧
    (tracked fun k => { k with ref := .tracking, angle := 3, slips := 1 }).tracker.slips ≠ 0 := by decide

theorem witness_CorrectionsEndWhereTheIndexSays :
    let s := tracked fun k => { k with ref := .tracking, angle := 8190 }
    s.tracker.debt = 0 ∧ s.tracker.angle < s.cfg.t ∧ 2048 ≤ s.cfg.t / 4 ∧ s.cfg.t / 4 < 2049 ∧
    s.tracker.angle + 2 = s.cfg.t := by decide

theorem witness_AngleFaultsStandUntilRearmed :
    (tracked fun k => { k with ref := .fault }).tracker.ref = .fault ∧ State.reset.tracker.ref ≠ .fault ∧
    (inMode .halt).mode = .halt ∧ (inMode .production).mode ≠ .halt ∧
    (tracked fun k => { k with ref := .tracking, angle := 1024, indexMark := true }).tracker.angle =
      State.reset.cfg.t / 8 ∧
    (tracked fun k => { k with ref := .tracking, angle := 1024 }).tracker.indexMark = false ∧
    (tracked fun k => { k with ref := .tracking, angle := 1023 }).tracker.angle ≠ State.reset.cfg.t / 8 ∧
    ∀ m ∈ [Mode.setup, .halt, .production, .drain],
      (asking .line .angleRearm [] (inMode m)).holds .line .angleRearm [] := by
  unfold State.holds; decide

theorem witness_StopTimeoutHoldsTheFills :
    let s := { holding 5 .fillFast with tracker := { trackerReset 0 with motion := .running } }
    s.tracker.motion = .running ∧ s.tracker.stopStart + s.cfg.stopTimeout * 1000 ≤ s.now + 200000 ∧
    (5 : HeadId).val < s.cfg.n ∧ (s.head 5).seq.state = .fillFast ∧ ¬ (s.head 6).seq.state = .fillFast ∧
    s.cfg.n ≤ (24 : HeadId).val ∧ s.now + 199999 < s.tracker.stopStart + s.cfg.stopTimeout * 1000 ∧
    State.reset.tracker.motion ≠ .running := by decide

theorem witness_MeterEdgesAreSpaced :
    let x := { head5 .fillFast with iface := { ifaceReset false with lastPulse := some 0 } }
    let s := placed 23 x State.reset
    (23 : HeadId).val < s.cfg.n ∧ (s.head 23).iface.lastPulse = some 0 ∧ 0 + s.cfg.spacing ≤ s.now + 20 ∧
    s.now + 19 < 0 + s.cfg.spacing ∧ s.cfg.n ≤ (24 : HeadId).val := by decide

theorem witness_AcceptedPulsesAreRoutedByState :
    (∀ st ∈ [FillState.fillFast, .fillSlow, .held, .settle, .snift], (head5 st).seq.plan = some plan5 ∧
      (head5 st).seq.state = st) ∧
    (∀ st ∈ [FillState.idle, .armed, .pressurizing, .pressurized, .snift, .discharge, .pass],
      ({ head5 st with seq := { seqReset with state := st } }).seq.plan = none ∧ (head5 st).seq.state = st) ∧
    ({ cycle5 .fillSlow with fillClock := some 7 }).fillClock = some 7 := by decide

theorem witness_PressureChangesAreFiltered :
    let filtering := placed 5 { head5 .pressurized with
      iface := { ifaceReset false with filter := some ⟨true, 0⟩ } } State.reset
    let s := State.reset
    (s.cfg.n ≤ (24 : HeadId).val ∧ (23 : HeadId).val < s.cfg.n) ∧
    ((s.head 5).psPin ≠ true ∧ true ≠ (s.head 5).iface.pressure ∧ (s.head 5).iface.filter = none) ∧
    ((placed 5 (headPowerOn true (allOutputs false)) s).head 5).psPin = true ∧
    ((placed 5 { headPowerOn true (allOutputs false) with iface := ifaceReset false } s).head 5).psPin ≠ false ∧
    ((placed 5 { headPowerOn true (allOutputs false) with iface := ifaceReset false } s).head 5).iface.pressure = false ∧
    ((filtering.head 5).iface.filter = some ⟨true, 0⟩ ∧ 0 + 2000 ≤ filtering.now + 2000 ∧
      filtering.now + 1999 < 0 + 2000) := by decide

theorem witness_BurstsAndReadbackFaultsEndTheFill :
    (12 ≤ State.reset.cfg.n ∧ State.reset.cfg.n ≤ 128 ∧ (23 : HeadId).val < State.reset.cfg.n) ∧
    ((holding 23 .fillFast).head 23).seq.state ∈ [FillState.pressurized, .fillFast, .fillSlow, .held, .settle] ∧
    ((holding 0 .pressurizing).head 0).seq.state ∉ [FillState.pressurized, .fillFast, .fillSlow, .held, .settle] ∧
    ((holding 0 .pressurizing).head 0).seq.outcome = none ∧
    ((placed 0 { head5 .settle with seq := { cycle5 .settle with outcome := some .noFlow } } State.reset).head
      0).seq.outcome ≠ none := by decide

theorem witness_SensesAreCheckedAgainstCommands :
    let settling := placed 5 { head5 .fillSlow with
      iface := { ifaceReset false with cmd := outputsOf .fillSlow, settle := ⟨none, none, some ⟨0, 15000⟩, none⟩ } }
      State.reset
    (settling.head 5).iface.settle.get .s = some ⟨0, 15000⟩ ∧ 0 + 15000 ≤ settling.now + 15000 ∧
    settling.now + 14999 < 0 + 15000 ∧ (settling.head 5).sense.get .s ≠ true ∧
    (settling.head 5).iface.settle.get .f = none ∧ (settling.head 5).sense.get .f = false ∧
    (5 : HeadId).val < settling.cfg.n ∧ settling.cfg.n ≤ (24 : HeadId).val ∧
    ((placed 24 (settling.head 5) settling).head 24).iface.settle.get .s = some ⟨0, 15000⟩ := by decide

theorem witness_CommandChangesStartTheirTimers :
    let s := placed 5 { head5 .snift with seq := { cycle5 .snift with sniftTimer := some ⟨0, 180000⟩ } } State.reset
    let t := ran (exec (.sniftTimerExpiry 180000 5) s)
    exec (.sniftTimerExpiry 180000 5) s = .next t ∧
    (t.head 5).iface.cmd.get .v ≠ (s.head 5).iface.cmd.get .v := ⟨rfl, by decide⟩

theorem witness_EstopAssertionEntersHalt :
    ({ State.reset with estop := true }).estop = true ∧ State.reset.estop = false ∧ State.reset.mode ≠ .halt ∧
    (inMode .halt).mode = .halt := by decide

theorem witness_HaltEntryStopsEachFill :
    (head5 .pressurizing).seq.state ∈ [FillState.pressurizing, .pressurized, .fillFast, .fillSlow, .held] ∧
    (head5 .settle).seq.state = .settle ∧ (head5 .settle).seq.plan = some plan5 ∧ (head5 .armed).seq.state = .armed ∧
    (head5 .snift).seq.state ∈ [FillState.idle, .snift, .discharge, .pass] ∧ (head5 .held).seq.plan = some plan5 := by
  decide

theorem witness_CycleTimersActAtTheirExpiry :
    let timed (st : FillState) : State := placed 5 { head5 st with seq := { cycle5 st with
      noFlowTimer := some ⟨0, 150000⟩, holdTimer := some ⟨0, 30000000⟩, settleTimer := some ⟨0, 120000⟩,
      sniftTimer := some ⟨0, 180000⟩ } } State.reset
    ((timed .fillSlow).head 5).seq.noFlowTimer = some ⟨0, 150000⟩ ∧ 0 + 150000 ≤ (timed .fillSlow).now + 150000 ∧
    ((timed .fillSlow).head 5).seq.state = .fillSlow ∧
    ((timed .held).head 5).seq.holdTimer = some ⟨0, 30000000⟩ ∧ ((timed .held).head 5).seq.state = .held ∧
    ((timed .settle).head 5).seq.settleTimer = some ⟨0, 120000⟩ ∧ ((timed .settle).head 5).seq.state = .settle ∧
    ((timed .snift).head 5).seq.sniftTimer = some ⟨0, 180000⟩ ∧ ((timed .snift).head 5).seq.state = .snift ∧
    (timed .snift).now + 179999 < 0 + 180000 ∧ (State.reset.head 5).seq.state ≠ .held := by decide

theorem witness_WindowsMoveTheCycle :
    (let at0 := tracked fun k => { k with angle := 1706 + 682 }
     let s := placed 5 (head5 .armed) at0
     let passing := placed 5 { head5 .pass with seq := { seqReset with state := .pass, header := some header5 } }
       (tracked fun k => { k with angle := 1706 + 7509 - 8192 })
     (5, Boundary.press) ∈ s.reached ∧ (5, Boundary.release) ∈ passing.reached ∧
     (0, Boundary.infeed) ∈ State.reset.reached ∧ (24, Boundary.infeed) ∉ State.reset.reached) ∧
    (head5 .armed).seq.state = .armed ∧ (head5 .armed).iface.cmd.p = false ∧
    (head5 .pressurized).seq.plan = some plan5 ∧ (head5 .pressurized).seq.state = .pressurized ∧
    (head5 .pressurizing).seq.state = .pressurizing ∧ (head5 .fillSlow).seq.state = .fillSlow ∧
    (head5 .settle).seq.settleDone = false ∧ ({ cycle5 .settle with settleDone := true }).settleDone = true ∧
    (head5 .idle).seq.state ≠ .armed := by decide +kernel

theorem witness_InfeedsStartAFillOrPass :
    ((State.reset.head 5).seq.state = .idle ∧ ((holding 5 .pass).head 5).seq.state ≠ .idle ∧
      State.reset.tuning.dripLimit < (9 : U16).toNat ∧ ¬ State.reset.tuning.dripLimit < (8 : U16).toNat) ∧
    State.reset.topRecipe = some (0, defaultRecipe) ∧ State.reset.infeed = false ∧
    ({ State.reset with infeed := true }).infeed = true ∧ (State.reset.head 5).entry.service = .inService ∧
    ({ entry5 with service := .blocked }).service ≠ .inService ∧
    ∀ m ∈ [Mode.production, .drain, .halt, .setup], (inMode m).mode = m := by decide

theorem witness_FillStartsTakeTheTop :
    State.reset.stack.entries = ⟨0, none⟩ :: [] ∧ State.reset.recipes[(0 : Slot).val] = some defaultRecipe ∧
    (stacked [⟨0, some 2⟩, ⟨0, none⟩]).stack.entries = ⟨0, some 2⟩ :: [⟨0, none⟩] ∧ 1 < 2 ∧
    (stacked [⟨0, some 1⟩, ⟨0, none⟩]).stack.entries = ⟨0, some 1⟩ :: [⟨0, none⟩] ∧
    (stacked [⟨0, some 1⟩]).stack.entries = ⟨0, some 1⟩ :: [] ∧
    formPlan 0 defaultRecipe entry5 State.reset.cfg.t = some plan5 ∧
    formPlan 0 { defaultRecipe with vT := 30000 } { entry5 with q := 2000, trim := -500 } State.reset.cfg.t = none := by
  decide

theorem witness_ReleasesMakeOneRecord :
    let made := placed 5 { head5 .discharge with seq := { cycle5 .discharge with outcome := some .ok } } State.reset
    let short := placed 5 { head5 .snift with seq := { cycle5 .snift with outcome := some .short } } State.reset
    (made.head 5).seq.header = some header5 ∧ (made.head 5).seq.outcome = some .ok ∧
    (made.head 5).seq.state = .discharge ∧ ((holding 5 .settle).head 5).seq.header = some header5 ∧
    ((holding 5 .settle).head 5).seq.plan = some plan5 ∧ (holding 5 .settle).queue.held.length < 256 ∧
    ((holding 5 .settle).head 5).seq.state = .settle ∧ (short.head 5).seq.state = .snift ∧
    (short.head 5).seq.outcome ≠ none := by decide

theorem witness_OutcomesStandOnceSet :
    let s := placed 5 { head5 .snift with seq := { cycle5 .snift with outcome := some .burst } } State.reset
    exec (.nop 7 .line) s = .next (s.elapse 7) ∧ (s.head 5).seq.outcome = some .burst ∧
    (s.head 5).seq.state ≠ .armed ∧ (s.head 5).seq.state ≠ .idle := ⟨rfl, by decide⟩

theorem witness_PlansKeepTheirChain :
    defaultRecipe.acceptable = true ∧
    (∀ q ∈ [2000, 100000], 2000 ≤ q ∧ q ≤ 100000) ∧ (∀ t ∈ [(-500 : Int), 500], t.natAbs ≤ 500) ∧
    (∀ t ∈ [1024, 32768], 1024 ≤ t ∧ t ≤ 32768) ∧ (0 : Nat) < 1 ∧ (0 : Int) ≤ 3 ∧ (-3 : Int) < 0 := by decide

theorem witness_SettleEndsDecideAndTeach :
    (head5 .settle).seq.plan = some plan5 ∧
    ((some FillOutcome.ok = some .ok) ∧ (cycle5 .settle).resumed = false ∧ (cycle5 .settle).shortSettle = false) ∧
    ¬ ({ cycle5 .settle with resumed := true }).resumed = false := by decide

theorem witness_CalibrationWritesStoreTheirValues :
    ((23 : Byte).toNat = (23 : HeadId).val ∧ (23 : HeadId).val < State.reset.cfg.n) ∧
    (asking .line .headCalWrite [23, 0xD0, 0x07, 0, 0] State.reset).holds .line .headCalWrite [23, 0xD0, 0x07, 0, 0] ∧
    (2000 ≤ 0xD0 + 256 * 0x07 ∧ 0xD0 + 256 * 0x07 ≤ 100000) ∧
    (asking .line .headCalWrite [23, 0xA1, 0x86, 1, 0] State.reset).holds .line .headCalWrite [23, 0xA1, 0x86, 1, 0] ∧
    100000 < 0xA1 + 256 * 0x86 + 65536 ∧
    (asking .line .headTrimSet [23, 0x2D, 0x01, 1] State.reset).holds .line .headTrimSet [23, 0x2D, 0x01, 1] ∧
    (asking .line .headTrimSet [23, 0x2D, 0x01, 2] State.reset).holds .line .headTrimSet [23, 0x2D, 0x01, 2] ∧
    (asking .line .headLeadSet [23, 0xF1, 0x0F] State.reset).holds .line .headLeadSet [23, 0xF1, 0x0F] := by
  unfold State.holds; decide

theorem witness_ServiceRequestsActOnOneHead :
    ((23 : Byte).toNat = (23 : HeadId).val ∧ (23 : HeadId).val < State.reset.cfg.n) ∧
    (∀ r ∈ [Request.headBlock, .headRelease, .headStatsClear], (asking .line r [23] State.reset).holds .line r [23]) ∧
    completes (.headRead 0 .inspection) = some (.inspection, .headRead) ∧ State.reset.cfg.n ≤ (24 : Byte).toNat ∧
    (asking .inspection .headRead [24] State.reset).holds .inspection .headRead [24] := by
  unfold State.holds; decide

theorem witness_HeadReadsReturnASection :
    ((23 : Byte).toNat = (23 : HeadId).val ∧ (23 : HeadId).val < State.reset.cfg.n) ∧
    ∀ ops ∈ [[(23 : Byte)], [23, 0], [23, 1], [23, 2]],
      (asking .inspection .headRead ops State.reset).holds .inspection .headRead ops := by
  unfold State.holds; decide

theorem witness_RecordsMoveTheHeadTable :
    FillOutcome.valve ∈ [FillOutcome.short, .overrun, .noFlow, .noPressure, .burst, .valve] := by decide

theorem witness_TuningWritesBindEveryHead :
    let ops : List Byte := [100, 0, 2, 1, 8, 64, 0]
    let s := placed 8 { headPowerOn false (allOutputs false) with entry := { entryPowerOn with faults := 2 } } State.reset
    ops.length = 7 ∧ (asking .line .tuningWrite ops s).holds .line .tuningWrite ops ∧
    (tuningOf ops).trimLimit < s.tuning.trimLimit ∧ (tuningOf ops).blockThreshold < s.tuning.blockThreshold ∧
    (s.head 8).entry.service = .inService ∧ (tuningOf ops).blockThreshold ≤ (s.head 8).entry.faults ∧
    ¬ (tuningOf ops).blockThreshold ≤ (State.reset.head 8).entry.faults := by
  unfold State.holds; decide

theorem witness_EpochsFollowTheCalibration :
    let s := asking .line .headCalWrite [5, 0xD0, 0x07, 0, 0] State.reset
    let t := ran (exec (.headCalWrite 1) s)
    exec (.headCalWrite 1) s = .next t ∧ (∀ dt, Instr.headCalWrite 1 ≠ .powerOnReset dt) ∧
    calibration (t.head 5).entry ≠ calibration (s.head 5).entry ∧ (t.head 5).entry.epoch ≠ (s.head 5).entry.epoch :=
  ⟨rfl, nofun, by decide⟩

theorem witness_RecipeRequestsGuardTheSlots :
    let bytes := recipeBytes defaultRecipe
    let worse := recipeBytes { defaultRecipe with aSnift := 2740 }
    let s := inMode .production
    ((7 : Byte).toNat = (7 : Slot).val ∧ bytes.length = 31 ∧
      (asking .line .recipeWrite (7 :: bytes) s).holds .line .recipeWrite (7 :: bytes) ∧
      recipeOf (7 :: bytes) 1 = some defaultRecipe ∧ recipeOf (7 :: worse) 1 = none) ∧
    (let armed := { holding 5 .armed with mode := .production, stack := ⟨[⟨1, none⟩], 0⟩ }
     (armed.head 5).seq.state = .armed ∧ (armed.head 5).seq.plan.map Plan.slot = some 0 ∧
     (∀ e ∈ armed.stack.entries, e.slot ≠ 0) ∧ ∀ h : HeadId, (s.head h).seq.plan = none) ∧
    ((∃ e ∈ s.stack.entries, e.slot = 0) ∧ ∀ e ∈ s.stack.entries, e.slot ≠ 7) ∧
    (∀ b ∈ [(7 : Byte), 8], (asking .line .recipeErase [b] s).holds .line .recipeErase [b] ∧
      (asking .line .recipeRead [b] s).holds .line .recipeRead [b]) ∧
    s.recipes[(7 : Slot).val] = none ∧ s.recipes[(0 : Slot).val] = some defaultRecipe ∧ 8 ≤ (8 : Byte).toNat := by
  unfold State.holds; decide +kernel

theorem witness_StackRequestsChangeTheTop :
    let full := stacked (List.replicate 6 ⟨0, none⟩)
    (∀ ops ∈ [[(0 : Byte)], [0, 1, 0], [0, 0, 0], [8], [7]], (asking .line .stackPush ops State.reset).holds .line
      .stackPush ops) ∧
    State.reset.recipes[(0 : Slot).val] ≠ none ∧ State.reset.recipes[(7 : Slot).val] = none ∧
    State.reset.stack.entries.length < State.reset.cfg.depth ∧ full.cfg.depth ≤ full.stack.entries.length ∧
    (asking .line .stackPop [] full).holds .line .stackPop [] ∧ State.reset.stack.entries.length ≤ 1 ∧
    2 ≤ (stacked [⟨0, none⟩, ⟨0, none⟩]).stack.entries.length ∧
    (∀ b ∈ [(0 : Byte), 7, 8], (asking .line .stackReplace [b] full).holds .line .stackReplace [b]) := by
  unfold State.holds; decide

theorem witness_QueueNumbersAndStoresRecords :
    let full := { State.reset with queue := { queueReset with held := List.replicate 256 record5 } }
    256 ≤ full.queue.held.length ∧ full.cfg.traceMode = .roll ∧
    ({ full with cfg := { configDefault with traceMode := .hold } }).cfg.traceMode = .hold ∧
    ¬ 256 ≤ withRecord.queue.held.length ∧
    broughtUp 7246 [record5] 7204 = 7205 ∧ broughtUp 7246 [record5] 7205 = 7205 ∧ broughtUp 7246 [] 7205 = 7247 := by
  decide +kernel

theorem witness_RevolutionsExpireOldRecords :
    1 ≤ configDefault.horizon ∧ record5 ∈ withRecord.queue.held ∧ record5.body.revolution = 300 ∧
    ((302 : U32) - record5.body.revolution).toNat < configDefault.horizon ∧
    ¬ ((303 : U32) - record5.body.revolution).toNat < configDefault.horizon ∧
    (withRecord.queue.expire 303 3).held.length < withRecord.queue.held.length ∧
    (withRecord.queue.expire 302 3).held.length = withRecord.queue.held.length := by decide

theorem witness_TraceRequestsReadAndClear :
    (∀ p, (asking p .traceNext [] withRecord).holds p .traceNext []) ∧
    (∀ p, (asking p .traceRewind [] withRecord).holds p .traceRewind []) ∧
    (∀ p, (asking p .traceFind [0x25, 0x1C, 0, 0] withRecord).holds p .traceFind [0x25, 0x1C, 0, 0]) ∧
    withRecord.queue.held = [] ++ record5 :: [] ∧
    decide ((withRecord.queue.created - record5.seq).toNat <
      (withRecord.queue.created + 1 - withRecord.queue.cursor .line).toNat) = true ∧
    decide ((withRecord.queue.created - record5.seq).toNat <
      (withRecord.queue.created + 1 - withRecord.queue.cursor .inspection).toNat) = false ∧
    record5.serial = some ((0 : Byte) ++ (0 : Byte) ++ (0x1C : Byte) ++ (0x25 : Byte)) ∧
    record5.serial ≠ some ((0 : Byte) ++ (0 : Byte) ++ (0x1C : Byte) ++ (0x26 : Byte)) ∧
    (asking .line .traceClear [] withRecord).holds .line .traceClear [] ∧
    (asking .line .serialSet [1, 0, 0, 0] State.reset).holds .line .serialSet [1, 0, 0, 0] ∧
    (asking .line .serialSet [0, 0, 0, 0] State.reset).holds .line .serialSet [0, 0, 0, 0] ∧
    State.reset.mode = .setup ∧ (inMode .halt).mode ≠ .setup ∧ State.reset.queue.held = [] ∧
    withRecord.queue.held ≠ [] :=
  ⟨fun p => asking_holds p _ _ _, fun p => asking_holds p _ _ _, fun p => asking_holds p _ _ _, by
    unfold State.holds; decide⟩

theorem witness_MatchedReportsRetireAndTeach :
    let ops : List Byte := [0x25, 0x1C, 0, 0, 0xF7, 0xFF]
    (asking .inspection .levelReport ops withRecord).holds .inspection .levelReport ops ∧
    ((0 : Byte) ++ (0 : Byte) ++ (0x1C : Byte) ++ (0x25 : Byte) : U32) ≠ 0 ∧
    withRecord.queue.held = [] ++ record5 :: [] ∧
    record5.serial = some ((0 : Byte) ++ (0 : Byte) ++ (0x1C : Byte) ++ (0x25 : Byte)) ∧
    withRecord.recipes[draft5.slot.val] = some defaultRecipe ∧
    ¬ ((draft5.outcome ≠ .ok ∧ draft5.outcome ≠ .outOfTol) ∨ draft5.flags.suspect = true ∨
      draft5.flags.resumed = true) ∧ (-9 : Int) ≠ -32768 := by
  unfold State.holds; decide

theorem witness_UnmatchedReportsAreCountedErrors :
    let age (x : U32) : Nat := ((7245 : U32) - x).toNat
    (∀ ops ∈ [[(0 : Byte), 0, 0, 0, 1, 0], [0x4E, 0x1C, 0, 0, 1, 0], [0x24, 0x1C, 0, 0, 1, 0], [0x26, 0x1C, 0, 0, 1, 0]],
      (asking .inspection .levelReport ops withRecord).holds .inspection .levelReport ops) ∧
    withRecord.queue.nextSerial ≠ 1 ∧ withRecord.queue.nextSerial - 1 = 7245 ∧
    withRecord.queue.held.findSome? TraceRecord.serial = some 7205 ∧
    (2147483648 ≤ age 7246 ∧ (age 7204 < 2147483648 ∧ age 7205 < age 7204) ∧
      (age 7206 < 2147483648 ∧ age 7206 ≤ age 7205)) ∧
    (∀ r ∈ withRecord.queue.held, r.serial ≠ some 7246 ∧ r.serial ≠ some 7204 ∧ r.serial ≠ some 7206) := by
  unfold State.holds; decide

theorem witness_ModeRequestsFollowTheTable :
    (∀ r m, (asking .line r [] (inMode m)).holds .line r [] ∧ (asking .line r [] (inMode m)).mode = m) ∧
    (tracked fun k => { k with ref := .tracking }).tracker.ref = .tracking ∧ State.reset.estop = false ∧
    State.reset.tracker.ref ≠ .tracking ∧
    ((holding 5 .snift).head 5).seq.state ∈
      [FillState.armed, .pressurizing, .pressurized, .fillFast, .fillSlow, .held, .settle, .snift] ∧
    (∀ h, (State.reset.head h).seq.state = .idle) :=
  ⟨fun _ _ => ⟨rfl, rfl⟩, by decide, rfl, by decide, by decide, by decide +kernel⟩

theorem witness_PocketsClearEmptiesThePockets :
    let s := placed 5 { head5 .discharge with seq := { cycle5 .discharge with outcome := some .ok } } State.reset
    (∀ m, (asking .line .pocketsClear [] (inMode m)).holds .line .pocketsClear []) ∧
    ((holding 5 .snift).head 5).seq.state = .snift ∧ (s.mode = .setup ∨ s.mode = .halt) ∧
    (∀ h, (s.head h).seq.state ≠ .snift) ∧ (s.head 5).seq.state = .discharge ∧
    (∀ h, (s.head h).seq.state = .pass ∨ (s.head h).seq.state = .discharge →
      (s.head h).seq.header ≠ none ∧ (s.head h).seq.outcome ≠ none) :=
  ⟨fun _ => rfl, by decide, by decide, by decide +kernel, by decide, by decide +kernel⟩

theorem witness_ConfigWritesTakeEffectAtOnce :
    let good := configBytes { configDefault with n := 25, t := 1024, depth := 2 }
    let bad := configBytes { configDefault with n := 11 }
    let deep := { State.reset with stack := ⟨[⟨0, some 3⟩, ⟨0, none⟩, ⟨0, none⟩], 0⟩ }
    (∀ ops ∈ [good, bad], ops.length = 13 ∧ (asking .line .configWrite ops deep).holds .line .configWrite ops) ∧
    (inMode .halt).mode ≠ .setup ∧ deep.mode = .setup ∧ ((holding 5 .pass).head 5).seq.state ≠ .idle ∧
    (∀ h : HeadId, h.val < deep.cfg.n → (deep.head h).seq.state = .idle) ∧ configOf bad = none ∧
    configOf good = some { configDefault with n := 25, t := 1024, depth := 2 } ∧ 1024 ≠ deep.cfg.t ∧
    2 < deep.cfg.depth ∧ 2 < deep.stack.entries.length ∧ deep.cfg.n ≤ (24 : HeadId).val ∧ (24 : HeadId).val < 25 ∧
    (let s := tracked fun k => { k with motion := .running, stopStart := 0 }
     let shorter := configBytes { configDefault with stopTimeout := 20 }
     (asking .line .configWrite shorter s).holds .line .configWrite shorter ∧
     configOf shorter = some { configDefault with stopTimeout := 20 } ∧ 20 ≠ s.cfg.stopTimeout ∧
     s.tracker.motion = .running ∧ s.tracker.stopStart + 20 * 1000 ≤ s.now + 20000 ∧
     ¬ s.tracker.stopStart + 20 * 1000 ≤ s.now + 19999) := by
  unfold State.holds; decide +kernel

theorem witness_SelectFallFixesTheOutput :
    (State.reset.port .line).frame = none ∧ ((asking .line .nop [] State.reset).port .line).slot ≠ none ∧
    (State.reset.port .line).slot = none ∧ (State.reset.port .line).buffer = none ∧
    ({ portPowerOn with buffer := some ⟨.ok, []⟩ }).buffer = some ⟨.ok, []⟩ := by decide

theorem witness_FrameEndsDeliverThenTakeTheRequest :
    let s := { State.reset with line := { portPowerOn with frame := some .filler } }
    (s.port .line).frame = some .filler ∧ [true, false, true, true, false, false, true].length < 8 ∧
    (shiftedIn [] = [] ∧ shiftedIn (bitsOf [0x02]) = [0x02] ∧ shiftedIn (bitsOf [0x02, 49, 0]) = [0x02, 49, 0] ∧
      shiftedIn (bitsOf [0x02, 0x00, 0x2A]) = 0x02 :: 0x00 :: ([] ++ 0x2A :: [])) ∧
    ([(0x02 : Byte), 49, 0].length = 3 ∧ 48 < (49 : Byte).toNat) ∧ ¬ 48 < (48 : Byte).toNat ∧
    (0x2A : Byte) = checkByte (0x02 :: 0x00 :: []) ∧ (0x2B : Byte) ≠ checkByte (0x02 :: 0x00 :: []) ∧
    requestOf 0x02 = some .status ∧ requestOf 0x23 = none ∧ permits .line .status = true ∧
    permits .line .levelReport = false ∧ (s.line.slot = none ∧ s.line.buffer = none) ∧
    (asking .line .nop [] s).line.slot ≠ none ∧ ((⟨.ok, []⟩ : Response).data.length + 3 ≤ 3) := by decide +kernel

theorem witness_RaisedEventsSetBitsAndDriveAttn :
    keepsKind .inspection .stackNotice = false ∧ keepsKind .line .stackNotice = true ∧
    (let x := { portPowerOn with attnMode := .pulse, mask := 0x0010 }
     x.attnMode = .pulse ∧ x.mask &&& EventKind.stackNotice.bit ≠ 0 ∧ x.events &&& EventKind.stackNotice.bit = 0) ∧
    portPowerOn.attnMode = .level := by decide

theorem witness_EventRequestsReadClearAndMask :
    (∀ p, (asking p .eventsRead [] State.reset).holds p .eventsRead []) ∧
    (∀ p m, (asking p .eventsMask [0xFF, 0xFF, m] State.reset).holds p .eventsMask [0xFF, 0xFF, m]) ∧
    1 < (2 : Byte).toNat ∧
    ({ portPowerOn with pulse := some 0 }).pulse = some 0 ∧ 0 + 2 ≤ State.reset.now + 2 ∧ State.reset.now + 1 < 0 + 2 :=
  ⟨fun p => asking_holds p _ _ _, fun p _ => asking_holds p _ _ _, by decide⟩

theorem witness_InspectionTouchesOnlyItsOwn :
    let s := asking .inspection .traceNext [] withRecord
    exec (.traceNext 1 .inspection) s = .next (ran (exec (.traceNext 1 .inspection) s)) ∧
    completes (.traceNext 1 .inspection) = some (.inspection, .traceNext) ∧ Request.traceNext ≠ .levelReport :=
  ⟨rfl, rfl, by decide⟩

/-! ### A state in the middle of production, for the laws that every step keeps -/

/-- PRODUCTION in TRACKING and RUNNING: head 5 fills slowly one pulse before its close, one record is held, an answer
waits on the line port, and the next command is the closing pulse. -/
def filling : State :=
  placed 5 { head5 .fillSlow with seq := { cycle5 .fillSlow with fillCount := 1983, fillClock := some 0 } }
    { withRecord with
      mode := .production
      tracker := { trackerReset 0 with ref := .tracking, motion := .running, angle := 4000 }
      queue := { withRecord.queue with matched := 7244 }
      line := { portPowerOn with buffer := some ⟨.ok, []⟩, mask := 0x017F, events := 0x0001 }
      pending := [.meterPulse 0 5] }

theorem filling_plan (h : HeadId) : (filling.head h).seq.plan = if h = 5 then some plan5 else none := by
  revert h; decide +kernel

theorem filling_queue : filling.queue = { withRecord.queue with matched := 7244 } := rfl

theorem filling_steps : step filling = .next (ran (step filling)) := rfl

theorem witness_StepKeepsTheStackAndTheTraceAccount :
    StackSound filling ∧ TraceAccounted filling ∧ TrackerInRange filling ∧ HeldRecently filling ∧ HeldInOrder filling ∧
    step filling = .next (ran (step filling)) :=
  ⟨by unfold StackSound; decide, by unfold TraceAccounted; decide, by unfold TrackerInRange; decide,
    by simp [HeldRecently, filling_queue, withRecord, record5, serialAge],
    by simp [HeldInOrder, filling_queue, withRecord, record5, serialAge], rfl⟩

theorem witness_StepKeepsTheHeadTableInRange :
    TrimsWithinLimit filling ∧ LeadsBounded filling ∧ HistoriesShort filling ∧ ServiceBelowThreshold filling ∧
    step filling = .next (ran (step filling)) :=
  ⟨by unfold TrimsWithinLimit; decide +kernel, by unfold LeadsBounded; decide +kernel,
    by unfold HistoriesShort; decide +kernel, by unfold ServiceBelowThreshold; decide +kernel, rfl⟩

theorem filling_valves : ValvesFollow filling := by unfold ValvesFollow; decide +kernel

theorem witness_StepKeepsTheValvesWithTheState :
    StoppedInSetupAndHalt filling ∧ ValvesFollow filling ∧ step filling = .next (ran (step filling)) :=
  ⟨by unfold StoppedInSetupAndHalt; decide +kernel, filling_valves, rfl⟩

theorem witness_StepKeepsFillsOutOfSetupAndHalt :
    StoppedInSetupAndHalt (holding 5 .snift) ∧ ValvesFollow (holding 5 .snift) ∧ (holding 5 .snift).mode = .setup ∧
    step (holding 5 .snift) = .next (holding 5 .snift) :=
  ⟨by unfold StoppedInSetupAndHalt; decide +kernel, by unfold ValvesFollow; decide +kernel, rfl, rfl⟩

theorem witness_StepKeepsThePlansAndTheFillCounts :
    PlansSound filling ∧ FillsMeetTheirClose filling ∧ step filling = .next (ran (step filling)) := by
  refine ⟨⟨⟨?_, by decide +kernel, by unfold TrimsWithinLimit; decide +kernel⟩, fun h p hp => ?_⟩, fun h p hp => ?_, rfl⟩
  · intro slot r hr
    have only : ∀ k : Slot, filling.recipes[k.val] = none ∨ filling.recipes[k.val] = some defaultRecipe := by
      decide +kernel
    rcases only slot with no | yes
    · simp [no] at hr
    · obtain rfl := Option.some.inj (yes.symm.trans hr); decide
  · rw [filling_plan] at hp
    split at hp
    · obtain rfl := Option.some.inj hp; unfold Plan.sound; decide
    · cases hp
  · rw [filling_plan] at hp
    split at hp
    · obtain rfl := Option.some.inj hp
      subst h; decide +kernel
    · cases hp

theorem witness_StepKeepsThePortsSound :
    PortsExclusive filling ∧ EventsOwn filling ∧ step filling = .next (ran (step filling)) := by
  refine ⟨fun p => ?_, fun p => ?_, rfl⟩ <;> cases p <;> decide

theorem witness_StepKeepsTheTrackerInRange :
    TrackerInRange filling ∧ step filling = .next (ran (step filling)) := ⟨by unfold TrackerInRange; decide, rfl⟩

end Sys2Proof.Tests
end

section
/-! ## HALT entry and ANGLE_FAULT field by field -/

namespace Sys2Proof.Machine

variable (s : State)

/-- A mode change reaches both ports (R178). -/
theorem State.port_setMode (m : Mode) (q : Port) :
    (s.setMode m).port q = (s.port q).take s.now .modeChange := by
  unfold State.setMode
  rw [State.port_raise]
  cases q <;> rfl

theorem State.enterHalt_of_halt (hm : s.mode = .halt) : s.enterHalt = s := by
  simp [State.enterHalt, hm]

@[simp] theorem State.enterHalt_mode : s.enterHalt.mode = .halt := by
  rcases s.enterHalt_cases with ⟨hm, h⟩ | ⟨_, h⟩
  · rw [h, hm]
  · rw [h, State.setMode_mode]

@[simp] theorem State.enterHalt_tracker : s.enterHalt.tracker = s.tracker := by
  rcases s.enterHalt_cases with ⟨_, h⟩ | ⟨_, h⟩
  · rw [h]
  · rw [h, State.setMode_tracker, State.mapBelow_tracker]

/-- HALT entry sets MODE_CHANGE on both ports, and in HALT nothing (R175). -/
theorem State.events_enterHalt (q : Port) :
    (s.enterHalt.port q).events =
      if s.mode = .halt then (s.port q).events else (s.port q).events ||| 0x0001 := by
  rcases s.enterHalt_cases with ⟨hm, h⟩ | ⟨hm, h⟩
  · rw [h, if_pos hm]
  · rw [h, if_neg hm, State.port_setMode]
    cases q <;> simp [State.port, PortState.take, EventKind.bit]

/-- HALT entry reaches every head below N (R175). -/
theorem State.head_enterHalt (hm : s.mode ≠ .halt) (h : HeadId) :
    s.enterHalt.head h = if h.val < s.cfg.n then (s.head h).haltEntry s.now s.cfg else s.head h := by
  simp [State.enterHalt, hm]

/-- The state of an ANGLE_FAULT before HALT entry: the tracker marked and the event raised (R12). -/
def State.faultMarked (s : State) : State :=
  ({ s with tracker := { s.tracker with ref := .fault, slips := 0, timingMark := false, speed := 0 } }).raise
    .angleFault

theorem State.angleFault_of_fault (hf : s.tracker.ref = .fault) : s.angleFault = s := by
  simp [State.angleFault, hf]

theorem State.angleFault_of_not_fault (hf : s.tracker.ref ≠ .fault) : s.angleFault = s.faultMarked.enterHalt := by
  simp [State.angleFault, State.faultMarked, hf]

@[simp] theorem State.faultMarked_tracker :
    s.faultMarked.tracker = { s.tracker with ref := .fault, slips := 0, timingMark := false, speed := 0 } := by
  simp [State.faultMarked]

@[simp] theorem State.faultMarked_mode : s.faultMarked.mode = s.mode := by simp [State.faultMarked]

@[simp] theorem State.faultMarked_now : s.faultMarked.now = s.now := by simp [State.faultMarked]

@[simp] theorem State.faultMarked_cfg : s.faultMarked.cfg = s.cfg := by simp [State.faultMarked]

@[simp] theorem State.faultMarked_heads : s.faultMarked.heads = s.heads := by simp [State.faultMarked]

@[simp] theorem State.head_faultMarked (h : HeadId) : s.faultMarked.head h = s.head h := by
  simp [State.head]

/-- The line port takes ANGLE_FAULT, and the inspection port does not keep it (section 10.7). -/
theorem State.port_faultMarked_line : s.faultMarked.port .line = s.line.take s.now .angleFault := rfl

theorem State.port_faultMarked_inspection : s.faultMarked.port .inspection = s.insp := rfl

theorem State.angleFault_tracker (hf : s.tracker.ref ≠ .fault) :
    s.angleFault.tracker = { s.tracker with ref := .fault, slips := 0, timingMark := false, speed := 0 } := by
  rw [s.angleFault_of_not_fault hf, State.enterHalt_tracker, State.faultMarked_tracker]

theorem State.angleFault_mode (hf : s.tracker.ref ≠ .fault) : s.angleFault.mode = .halt := by
  rw [s.angleFault_of_not_fault hf, State.enterHalt_mode]

theorem State.angleFault_line_events (hf : s.tracker.ref ≠ .fault) :
    s.angleFault.line.events =
      if s.mode = .halt then s.line.events ||| 0x0002 else s.line.events ||| 0x0002 ||| 0x0001 := by
  rw [s.angleFault_of_not_fault hf]
  have entry := s.faultMarked.events_enterHalt .line
  rwa [State.port_faultMarked_line, State.faultMarked_mode] at entry

theorem State.angleFault_insp_events (hf : s.tracker.ref ≠ .fault) :
    s.angleFault.insp.events = if s.mode = .halt then s.insp.events else s.insp.events ||| 0x0001 := by
  rw [s.angleFault_of_not_fault hf]
  have entry := s.faultMarked.events_enterHalt .inspection
  rwa [State.port_faultMarked_inspection, State.faultMarked_mode] at entry

theorem State.angleFault_heads_of_halt (hf : s.tracker.ref ≠ .fault) (hm : s.mode = .halt) :
    s.angleFault.heads = s.heads := by
  rw [s.angleFault_of_not_fault hf, State.enterHalt_of_halt _ (by rw [State.faultMarked_mode, hm]),
    State.faultMarked_heads]

theorem State.head_angleFault (hf : s.tracker.ref ≠ .fault) (hm : s.mode ≠ .halt) (h : HeadId) :
    s.angleFault.head h = if h.val < s.cfg.n then (s.head h).haltEntry s.now s.cfg else s.head h := by
  rw [s.angleFault_of_not_fault hf, State.head_enterHalt _ (by rwa [State.faultMarked_mode]),
    State.head_faultMarked, State.faultMarked_now, State.faultMarked_cfg]

/-! ## The index deadline (R11) -/

theorem State.indexDeadline_of_mark (hr : s.tracker.ref = .tracking) (ha : s.tracker.angle = s.cfg.t / 8)
    (hm : s.tracker.indexMark = true) :
    s.indexDeadline = { s with tracker := { s.tracker with indexMark := false } } := by
  simp [State.indexDeadline, hr, ha, hm]

theorem State.indexDeadline_of_no_mark (hr : s.tracker.ref = .tracking) (ha : s.tracker.angle = s.cfg.t / 8)
    (hm : s.tracker.indexMark = false) : s.indexDeadline = s.angleFault := by
  simp [State.indexDeadline, hr, ha, hm]

theorem State.indexDeadline_elsewhere (h : s.tracker.ref ≠ .tracking ∨ s.tracker.angle ≠ s.cfg.t / 8) :
    s.indexDeadline = s := by
  unfold State.indexDeadline
  rw [if_neg]
  rintro ⟨ha, hr⟩
  exact h.elim (· hr) (· ha)

/-! ## ANGLE_REARM (R13) -/

theorem Mode.filling_iff (m : Mode) : m.filling = true ↔ m = .production ∨ m = .drain := by
  cases m <;> decide

theorem Mode.filling_eq_false_iff (m : Mode) : m.filling = false ↔ m = .setup ∨ m = .halt := by
  cases m <;> decide

/-- A completion of ANGLE_REARM with its request in the slot answers what the block serves. -/
theorem exec_angleRearm_of_holds (dt : Nat) (hs : s.holds .line .angleRearm []) :
    exec (.angleRearm dt) s = .next
      ((serveAngleRearm [] (s.elapse dt)).2.finish .line (serveAngleRearm [] (s.elapse dt)).1) := by
  have held : (s.elapse dt).holds .line .angleRearm [] := (s.elapse_holds dt _ _ _).mpr hs
  change Host.Outcome.next _ = _
  rw [State.complete_of_holds _ _ _ held, if_pos (by decide)]

theorem serveAngleRearm_of_not_filling (ops : List Byte) (hm : s.mode = .setup ∨ s.mode = .halt) :
    serveAngleRearm ops s = (bare .ok, { s with tracker := s.tracker.rearmed }) := by
  simp [serveAngleRearm, s.mode.filling_eq_false_iff.mpr hm]

theorem serveAngleRearm_of_filling (ops : List Byte) (hm : s.mode = .production ∨ s.mode = .drain) :
    serveAngleRearm ops s = (bare .wrongMode, s) := by
  simp [serveAngleRearm, s.mode.filling_iff.mpr hm]

end Sys2Proof.Machine

namespace Sys2Proof.Proofs

open Sys2Proof.Machine

/-- Settles O13, from what ANGLE_FAULT leaves in each field, the three cases of the deadline check and the two answers
of ANGLE_REARM. -/
theorem angleFaultsStandUntilRearmed : Obligations.AngleFaultsStandUntilRearmed := by
  refine ⟨fun s => ⟨s.angleFault_of_fault, fun hf => ?_⟩, fun s => ?_, fun dt s hs => ⟨fun hm => ?_, fun hm => ?_⟩⟩
  · exact ⟨s.angleFault_tracker hf, s.angleFault_mode hf, s.angleFault_line_events hf, s.angleFault_insp_events hf,
      s.angleFault_heads_of_halt hf, s.head_angleFault hf⟩
  · exact ⟨s.indexDeadline_of_mark, s.indexDeadline_of_no_mark, s.indexDeadline_elsewhere⟩
  · rw [exec_angleRearm_of_holds s dt hs, serveAngleRearm_of_not_filling (s.elapse dt) [] hm]
    rfl
  · rw [exec_angleRearm_of_holds s dt hs, serveAngleRearm_of_filling (s.elapse dt) [] hm]

end Sys2Proof.Proofs
end

section
/-! ## Accepted pulses by the fill state (R24, R48, R49, R53, R57) -/

namespace Sys2Proof.Machine

/-- `satInc` with its limit written out as a value, as the statements of the counters have it. -/
theorem satInc_eq (c : U16) : satInc c = if c = 65535 then 65535 else c + 1 := by
  unfold satInc
  split
  · assumption
  · rfl

section

variable (now angle : Nat) (cfg : ConfigBlock) {x : Head}

/-- A fill pulse under a plan counts, restarts the no-flow timer, and meets the close before the switch (R48). -/
theorem Head.fillPulse_of_plan {p : Plan} (hp : x.seq.plan = some p) :
    x.fillPulse now cfg angle =
      let running := { x with seq := { x.seq with
        fillCount := satInc x.seq.fillCount, noFlowTimer := startTimer now p.noFlow } }
      if (satInc x.seq.fillCount).toNat = p.pClose then running.takeClose now cfg angle
      else if (satInc x.seq.fillCount).toNat = p.pSwitch ∧ x.seq.state = .fillFast then running.enter now cfg .fillSlow
      else running := by
  simp only [Head.fillPulse, hp]

/-- A pulse in HELD under a plan counts and may close (R53). -/
theorem Head.heldPulse_of_plan {p : Plan} (hp : x.seq.plan = some p) :
    x.heldPulse now cfg angle =
      let counted := { x with seq := { x.seq with fillCount := satInc x.seq.fillCount } }
      if (satInc x.seq.fillCount).toNat = p.pClose then counted.takeClose now cfg angle else counted := by
  simp only [Head.heldPulse, hp]

theorem Head.acceptedPulse_of_filling (hs : x.seq.state = .fillFast ∨ x.seq.state = .fillSlow) :
    x.acceptedPulse now cfg angle = x.fillPulse now cfg angle := by
  rcases hs with fast | slow
  · simp only [Head.acceptedPulse, fast]
  · simp only [Head.acceptedPulse, slow]

theorem Head.acceptedPulse_of_held (hs : x.seq.state = .held) :
    x.acceptedPulse now cfg angle = x.heldPulse now cfg angle := by
  simp only [Head.acceptedPulse, hs]

theorem Head.acceptedPulse_of_settle (hs : x.seq.state = .settle) :
    x.acceptedPulse now cfg angle =
      { x with seq := { x.seq with overrunCount := satInc x.seq.overrunCount } } := by
  simp only [Head.acceptedPulse, hs]

/-- The states in which an accepted pulse is a drip (R24). -/
theorem Head.acceptedPulse_drips
    (hs : x.seq.state ∈ [FillState.idle, .armed, .pressurizing, .pressurized, .snift, .discharge, .pass]) :
    x.acceptedPulse now cfg angle = { x with iface := { x.iface with drips := satInc x.iface.drips } } := by
  unfold Head.acceptedPulse
  cases st : x.seq.state with
  | fillFast | fillSlow | held | settle => simp [st] at hs
  | idle | armed | pressurizing | pressurized | snift | discharge | pass => rfl

/-- Entry to SETTLE under a plan, field by field: a settle time of 0 has the settle done at once (R49). -/
theorem Head.enterSettle_of_plan {p : Plan} (hp : x.seq.plan = some p) :
    x.enterSettle now cfg =
      { x with
        seq := { x.seq with
          state := .settle, noFlowTimer := none, holdTimer := none, fillClock := none, sniftAngle := false,
          settleDone := decide (p.settle = 0),
          settleTimer := if p.settle = 0 then none else startTimer now p.settle }
        iface := x.iface.drive now cfg ⟨false, false, false, false⟩ } := by
  simp only [Head.enterSettle, Head.enter, outputsOf, hp]

/-- The close with the fill clock running: its record, then SETTLE (R49). -/
theorem Head.takeClose_of_fillClock {opened : Nat} (hc : x.seq.fillClock = some opened) :
    x.takeClose now cfg angle =
      ({ x with seq := { x.seq with close := some ⟨angle, min (elapsedMs now opened) 65535⟩ } }).enterSettle
        now cfg := by
  simp only [Head.takeClose, hc]

end

/-! ## MP edges by their spacing (R22, R23) -/

theorem pulseAccepted_iff (now spacing : Nat) (last : Option Nat) :
    pulseAccepted now spacing last = true ↔ ∀ t, last = some t → t + spacing ≤ now := by
  cases last with
  | none => simp [pulseAccepted]
  | some t => simp [pulseAccepted]

theorem exec_meterPulse (dt : Nat) (h : HeadId) (s : State) :
    exec (.meterPulse dt h.val) s = .next ((s.elapse dt).meterEdge h) :=
  onHead_val _ h State.meterEdge

variable (s : State) (h : HeadId)

theorem State.meterEdge_of_accepted (hn : h.val < s.cfg.n)
    (ha : pulseAccepted s.now s.cfg.spacing (s.head h).iface.lastPulse = true) :
    s.meterEdge h = s.updHead h fun x =>
      ({ x with iface := { x.iface with lastPulse := some s.now } }).acceptedPulse s.now s.cfg (s.localAngle h) := by
  rw [State.meterEdge, if_pos hn, if_pos ha]

theorem State.meterEdge_of_glitch (hn : h.val < s.cfg.n)
    (ha : ¬ pulseAccepted s.now s.cfg.spacing (s.head h).iface.lastPulse = true) :
    s.meterEdge h = s.updHead h fun x =>
      { x with iface := { x.iface with glitches := satInc x.iface.glitches } } := by
  rw [State.meterEdge, if_pos hn, if_neg ha]

theorem State.meterEdge_of_ge (hn : s.cfg.n ≤ h.val) : s.meterEdge h = s := by
  rw [State.meterEdge, if_neg (Nat.not_lt.mpr hn)]

end Sys2Proof.Machine

namespace Sys2Proof.Proofs

open Sys2Proof.Machine

/-- Settles O16: the routing by the groups of fill states, then the close as its record followed by SETTLE. -/
theorem acceptedPulsesAreRoutedByState : Obligations.AcceptedPulsesAreRoutedByState := by
  refine ⟨fun now angle cfg x => ?_, fun now angle cfg x p opened hp hc => ?_⟩
  · simp only [← satInc_eq]
    refine ⟨fun p hp => ⟨fun filling => ?_, fun held => ?_⟩, Head.acceptedPulse_of_settle now angle cfg,
      Head.acceptedPulse_drips now angle cfg⟩
    · rw [Head.acceptedPulse_of_filling now angle cfg filling]
      exact Head.fillPulse_of_plan now angle cfg hp
    · rw [Head.acceptedPulse_of_held now angle cfg held]
      exact Head.heldPulse_of_plan now angle cfg hp
  · rw [Head.takeClose_of_fillClock now angle cfg hc]
    exact Head.enterSettle_of_plan now cfg hp

/-- Settles O15, by whether the edge is accepted, with equality at the spacing on the accepted side. -/
theorem meterEdgesAreSpaced : Obligations.MeterEdgesAreSpaced := by
  intro dt h s
  simp only [← satInc_eq, exec_meterPulse]
  refine ⟨fun hn spaced => ?_, fun hn close => ?_, fun hn => ?_⟩
  · rw [State.meterEdge_of_accepted (s.elapse dt) h hn ((pulseAccepted_iff _ _ _).mpr spaced)]
    rfl
  · obtain ⟨t, last, early⟩ := close
    rw [State.meterEdge_of_glitch (s.elapse dt) h hn fun accepted =>
      Nat.not_le.mpr early ((pulseAccepted_iff _ _ _).mp accepted t last)]
    rfl
  · rw [State.meterEdge_of_ge (s.elapse dt) h hn]

end Sys2Proof.Proofs
end

section
/-! ## Burst, readback fault and valve auto-block (R63 to R65, R99, R111) -/

namespace Sys2Proof.Machine

/-- PRESSURIZED through SETTLE (R64). -/
theorem FillState.bursts_iff (st : FillState) :
    st.bursts = true ↔ st ∈ [FillState.pressurized, .fillFast, .fillSlow, .held, .settle] := by
  cases st <;> decide

/-- PRESSURIZING through SETTLE (R65). -/
theorem FillState.valveEnds_iff (st : FillState) :
    st.valveEnds = true ↔ st ∈ [FillState.pressurizing, .pressurized, .fillFast, .fillSlow, .held, .settle] := by
  cases st <;> decide

/-- A valve auto-block overrides every service state but BLOCKED (R99). -/
theorem valveBlock_eq (x : Service) : valveBlock x = if x = .blocked then .blocked else .autoBlocked .valve := by
  cases x with
  | blocked => rfl
  | inService | autoBlocked _ => simp [valveBlock]

/-! ### A cycle cut short -/

section

variable (now : Nat) (cfg : ConfigBlock) (o : FillOutcome) (x : Head)

@[simp] theorem Head.enterSnift_entry : (x.enterSnift now cfg).entry = x.entry := rfl

@[simp] theorem Head.endWith_state : (x.endWith now cfg o).seq.state = .snift := rfl

@[simp] theorem Head.endWith_outcome : (x.endWith now cfg o).seq.outcome = some (x.seq.outcome.getD o) := by
  simp [Head.endWith, Head.enterSnift, Head.enter, Sequencer.setOutcome_eq]

@[simp] theorem Head.endWith_entry : (x.endWith now cfg o).entry = x.entry := rfl

@[simp] theorem Head.endWith_cmd : (x.endWith now cfg o).iface.cmd = ⟨false, false, false, true⟩ := rfl

variable {x}

theorem Head.endWith_of_no_outcome (ho : x.seq.outcome = none) :
    x.endWith now cfg o = ({ x with seq := { x.seq with outcome := some o } }).enterSnift now cfg := by
  simp only [Head.endWith, Sequencer.setOutcome_eq, ho, Option.getD_none]

/-- A cause that finds the outcome set only starts the snift (R62). -/
theorem Head.endWith_of_outcome (ho : x.seq.outcome ≠ none) : x.endWith now cfg o = x.enterSnift now cfg := by
  obtain ⟨old, hold⟩ := Option.ne_none_iff_exists'.mp ho
  simp only [Head.endWith, Sequencer.setOutcome, hold]

end

/-! ### The neighbours of a head among N -/

/-- A neighbour is one position after the head or one before it, both among N (R63). -/
theorem mem_neighbours_iff {n : Nat} {h : HeadId} (hn : n ≤ 128) (hh : h.val < n) (j : HeadId) :
    j ∈ neighbours n h ↔ j.val = (h.val + 1) % n ∨ (j.val + 1) % n = h.val ∧ j.val < n := by
  have next_lt : (h.val + 1) % n < n := Nat.mod_lt _ (by omega)
  have prev_lt : (h.val + n - 1) % n < n := Nat.mod_lt _ (by omega)
  have before : j.val = (h.val + n - 1) % n ↔ (j.val + 1) % n = h.val ∧ j.val < n := by
    rcases Nat.eq_zero_or_pos h.val with zero | pos
    · rw [zero, Nat.mod_eq_of_lt (by omega : 0 + n - 1 < n)]
      constructor
      · intro last
        exact ⟨by rw [last, show 0 + n - 1 + 1 = n by omega, Nat.mod_self], by omega⟩
      · rintro ⟨wraps, hj⟩
        have : n ≤ j.val + 1 := Nat.le_of_dvd (Nat.succ_pos _) (Nat.dvd_of_mod_eq_zero wraps)
        omega
    · rw [show h.val + n - 1 = h.val - 1 + n by omega, Nat.add_mod_right, Nat.mod_eq_of_lt (by omega : h.val - 1 < n)]
      constructor
      · intro prev
        exact ⟨by rw [prev, Nat.sub_add_cancel pos, Nat.mod_eq_of_lt hh], by omega⟩
      · rintro ⟨next, hj⟩
        rcases Nat.lt_or_ge (j.val + 1) n with inside | wraps
        · rw [Nat.mod_eq_of_lt inside] at next
          omega
        · rw [show j.val + 1 = n by omega, Nat.mod_self] at next
          omega
  simp only [neighbours, List.mem_cons, List.not_mem_nil, or_false, Fin.ext_iff, Fin.val_ofNat,
    Nat.mod_eq_of_lt (Nat.lt_of_lt_of_le next_lt hn), Nat.mod_eq_of_lt (Nat.lt_of_lt_of_le prev_lt hn), before]
  exact or_comm

/-- Among two heads or more, no head is its own neighbour (R63). -/
theorem self_notMem_neighbours {n : Nat} {h : HeadId} (two : 2 ≤ n) (hn : n ≤ 128) (hh : h.val < n) :
    h ∉ neighbours n h := by
  have moves : (h.val + 1) % n ≠ h.val := by
    rcases Nat.lt_or_ge (h.val + 1) n with inside | wraps
    · rw [Nat.mod_eq_of_lt inside]
      omega
    · rw [show h.val + 1 = n by omega, Nat.mod_self]
      omega
  rw [mem_neighbours_iff hn hh]
  rintro (next | ⟨prev, -⟩)
  · exact moves next.symm
  · exact moves prev

theorem HeadRecord.markSuspect_idem (turns : Nat) (e : HeadRecord) :
    (e.markSuspect turns).markSuspect turns = e.markSuspect turns := by
  simp [HeadRecord.markSuspect]

variable (s : State) (h : HeadId)

/-- Marking touches the heads alone. -/
theorem State.markNeighbours_eq : s.markNeighbours h = { s with heads := (s.markNeighbours h).heads } := rfl

/-- Marking reaches the neighbours, each once as far as its count shows, and no other head (R63). -/
theorem State.head_markNeighbours (j : HeadId) :
    (s.markNeighbours h).head j =
      if j ∈ neighbours s.cfg.n h then
        { s.head j with entry := (s.head j).entry.markSuspect s.tuning.suspectTurns }
      else s.head j := by
  simp only [State.markNeighbours, neighbours, List.foldl_cons, List.foldl_nil, State.head_updHead, List.mem_cons,
    List.not_mem_nil, or_false, eq_comm (a := j)]
  split_ifs <;> simp_all [HeadRecord.markSuspect_idem]

/-! ### The switch release -/

theorem State.switchRelease_of_bursts (hb : (s.head h).seq.state.bursts = true) :
    s.switchRelease h = (s.markNeighbours h).updHead h (Head.endWith s.now s.cfg .burst) :=
  if_pos hb

theorem State.switchRelease_of_not_bursts (hb : ¬ (s.head h).seq.state.bursts = true) : s.switchRelease h = s :=
  if_neg hb

/-- A burst changes its own head as a cycle cut short, whatever it marks (R64). -/
theorem State.head_switchRelease_same (hb : (s.head h).seq.state.bursts = true) (self : h ∉ neighbours s.cfg.n h) :
    (s.switchRelease h).head h = (s.head h).endWith s.now s.cfg .burst := by
  rw [s.switchRelease_of_bursts h hb, State.head_updHead_same, State.head_markNeighbours, if_neg self]

/-- A burst changes any other head by its mark alone (R63). -/
theorem State.head_switchRelease_other (hb : (s.head h).seq.state.bursts = true) {j : HeadId} (hj : j ≠ h) :
    (s.switchRelease h).head j = (s.markNeighbours h).head j := by
  rw [s.switchRelease_of_bursts h hb, State.head_updHead_other _ h j _ hj.symm]

theorem State.switchRelease_eq : s.switchRelease h = { s with heads := (s.switchRelease h).heads } := by
  by_cases hb : (s.head h).seq.state.bursts = true
  · rw [s.switchRelease_of_bursts h hb]
    rfl
  · rw [s.switchRelease_of_not_bursts h hb]

/-! ### The valve auto-block and the readback fault -/

@[simp] theorem State.head_raiseIfBlocked (before after : Service) (j : HeadId) :
    (s.raiseIfBlocked before after).head j = s.head j := by
  unfold State.raiseIfBlocked
  split
  · rfl
  · exact s.head_raise _ j

/-- HEAD_BLOCKED reaches the line port exactly when the auto-block changed something (R111). -/
theorem State.line_events_raiseIfBlocked (before after : Service) :
    (s.raiseIfBlocked before after).line.events =
      if before = after then s.line.events else s.line.events ||| 0x0004 := by
  unfold State.raiseIfBlocked
  split <;> rfl

theorem State.head_valveBlockNow_same :
    (s.valveBlockNow h).head h =
      { s.head h with entry := { (s.head h).entry with service := valveBlock (s.head h).entry.service } } := by
  rw [State.valveBlockNow, State.head_raiseIfBlocked, State.head_updHead_same]

theorem State.head_valveBlockNow_other {j : HeadId} (hj : j ≠ h) : (s.valveBlockNow h).head j = s.head j := by
  rw [State.valveBlockNow, State.head_raiseIfBlocked, State.head_updHead_other _ h j _ hj.symm]

theorem State.line_events_valveBlockNow :
    (s.valveBlockNow h).line.events =
      if valveBlock (s.head h).entry.service = (s.head h).entry.service then s.line.events
      else s.line.events ||| 0x0004 := by
  rw [State.valveBlockNow, State.line_events_raiseIfBlocked, State.updHead_line]
  simp only [eq_comm]

/-- Two changes that agree on the head as it stands are one change. -/
theorem State.updHead_congr {f g : Head → Head} (hfg : f (s.head h) = g (s.head h)) :
    s.updHead h f = s.updHead h g := by
  rw [State.updHead, hfg, State.updHead]

theorem State.readbackFault_of_no_outcome (hv : (s.head h).seq.state.valveEnds = true)
    (ho : (s.head h).seq.outcome = none) :
    s.readbackFault h = s.updHead h (Head.endWith s.now s.cfg .valve) := by
  rw [State.readbackFault, if_pos hv]
  exact if_pos ho

theorem State.readbackFault_of_outcome (hv : (s.head h).seq.state.valveEnds = true)
    (ho : (s.head h).seq.outcome ≠ none) :
    s.readbackFault h = (s.updHead h (Head.enterSnift s.now s.cfg)).valveBlockNow h := by
  rw [State.readbackFault, if_pos hv, ← s.updHead_congr h (Head.endWith_of_outcome s.now s.cfg .valve ho)]
  exact if_neg ho

theorem State.readbackFault_elsewhere (hv : ¬ (s.head h).seq.state.valveEnds = true) :
    s.readbackFault h = s.valveBlockNow h :=
  if_neg hv

/-- What a readback fault can do (R65, R99): end the fill with VALVE, or auto-block at once a head that has taken
its snift or stayed where it was, its service as before. -/
theorem State.readbackFault_cases :
    ((s.head h).seq.state.valveEnds = true ∧ (s.head h).seq.outcome = none ∧
      s.readbackFault h = s.updHead h (Head.endWith s.now s.cfg .valve)) ∨
    ∃ f : Head → Head, (∀ x, (f x).entry = x.entry) ∧ s.readbackFault h = (s.updHead h f).valveBlockNow h := by
  by_cases hv : (s.head h).seq.state.valveEnds = true
  · by_cases ho : (s.head h).seq.outcome = none
    · exact .inl ⟨hv, ho, s.readbackFault_of_no_outcome h hv ho⟩
    · exact .inr ⟨_, Head.enterSnift_entry s.now s.cfg, s.readbackFault_of_outcome h hv ho⟩
  · refine .inr ⟨id, fun _ => rfl, ?_⟩
    rw [s.updHead_self h id rfl, s.readbackFault_elsewhere h hv]

theorem State.head_readbackFault_other {j : HeadId} (hj : j ≠ h) : (s.readbackFault h).head j = s.head j := by
  rcases s.readbackFault_cases h with ⟨-, -, ends⟩ | ⟨f, -, blocks⟩
  · rw [ends, State.head_updHead_other _ h j _ hj.symm]
  · rw [blocks, State.head_valveBlockNow_other _ h hj, State.head_updHead_other _ h j _ hj.symm]

/-- Unless it ends the fill with VALVE, a readback fault raises HEAD_BLOCKED where it changes the service (R111). -/
theorem State.line_events_readbackFault
    (hno : ¬ ((s.head h).seq.state.valveEnds = true ∧ (s.head h).seq.outcome = none)) :
    (s.readbackFault h).line.events =
      if valveBlock (s.head h).entry.service = (s.head h).entry.service then s.line.events
      else s.line.events ||| 0x0004 := by
  rcases s.readbackFault_cases h with ⟨hv, ho, -⟩ | ⟨f, same, blocks⟩
  · exact absurd ⟨hv, ho⟩ hno
  · rw [blocks, State.line_events_valveBlockNow, State.head_updHead_same, same, State.updHead_line]

end Sys2Proof.Machine

namespace Sys2Proof.Proofs

open Sys2Proof.Machine

/-- Settles O18: a burst is the marks on the neighbours followed by the head's own snift, which meet in no head since
no head is its own neighbour; a readback fault is taken by the cases of `State.readbackFault`. -/
theorem burstsAndReadbackFaultsEndTheFill : Obligations.BurstsAndReadbackFaultsEndTheFill := by
  refine ⟨fun h s twelve hn hh => ?_, fun h s => ?_⟩
  · simp only [← FillState.bursts_iff, ← mem_neighbours_iff hn hh]
    refine ⟨fun hb => ?_, s.switchRelease_of_not_bursts h⟩
    have own := s.head_switchRelease_same h hb (self_notMem_neighbours (by omega) hn hh)
    refine ⟨?_, ?_, ?_, ?_, fun j hj => ?_, s.switchRelease_eq h⟩
    · rw [own, Head.endWith_state]
    · rw [own, Head.endWith_outcome]
    · rw [own, Head.endWith_entry]
    · rw [own, Head.endWith_cmd]
    · rw [s.head_switchRelease_other h hb hj]
      exact s.head_markNeighbours h j
  · simp only [← FillState.valveEnds_iff, ← valveBlock_eq]
    refine ⟨fun hv ho => ?_, fun hv ho => ?_, fun hv => ?_, s.line_events_readbackFault h,
      fun j hj => s.head_readbackFault_other h hj⟩
    · rw [s.readbackFault_of_no_outcome h hv ho]
      exact s.updHead_congr h (Head.endWith_of_no_outcome s.now s.cfg .valve ho)
    · rw [s.readbackFault_of_outcome h hv ho, State.head_valveBlockNow_same, State.head_updHead_same]
      rfl
    · rw [s.readbackFault_elsewhere h hv, State.head_valveBlockNow_same]

end Sys2Proof.Proofs
end

section
/-! ## The local-0 event: the drip check and the infeed (R26, R27, R40, R41, R43, R44, R130) -/

namespace Sys2Proof.Machine

/-- Entry to PASS field by field (R43). -/
theorem Head.enterPass_eq (now : Nat) (cfg : ConfigBlock) (why : NotFilledReason) (slot : Slot) (r : Recipe)
    (x : Head) :
    x.enterPass now cfg why slot r =
      { x with
        seq := { seqReset with
          state := .pass, outcome := some .notFilled, reason := some why,
          header := some ⟨slot, r.product, r.vT, x.entry.epoch, r.aRelease * cfg.t / 3600, r.resumeReject⟩ }
        iface := x.iface.drive now cfg ⟨false, false, false, false⟩ } := rfl

variable (s : State) (h : HeadId)

/-- The drip check leaves the head's cycle as it was. -/
@[simp] theorem State.seq_dripCheck : ((s.dripCheck h).head h).seq = (s.head h).seq := by
  simp only [State.dripCheck]
  split
  · rw [State.head_raise, State.head_updHead_same]
  · rw [State.head_updHead_same]

theorem State.onInfeed_of_idle (hs : (s.head h).seq.state = .idle) :
    s.onInfeed h = (s.dripCheck h).infeedDecision h :=
  if_pos (by rw [State.seq_dripCheck, hs])

theorem State.onInfeed_of_not_idle (hs : (s.head h).seq.state ≠ .idle) : s.onInfeed h = s.dripCheck h :=
  if_neg (by rwa [State.seq_dripCheck])

/-- A container that passes takes its header from the stack's top and leaves the stack (R43, R130). -/
theorem State.passEntry_of_top {slot : Slot} {r : Recipe} (top : s.topRecipe = some (slot, r))
    (why : NotFilledReason) : s.passEntry why h = s.updHead h (Head.enterPass s.now s.cfg why slot r) := by
  simp only [State.passEntry, top]

/-- An empty pocket counts and leaves the cycle (R40, R41). -/
theorem State.infeedDecision_of_absent (hi : s.infeed = false) :
    s.infeedDecision h = s.updHead h fun x =>
      { x with entry := { x.entry with
          stats := { x.entry.stats with emptyPockets := satInc x.entry.stats.emptyPockets } } } :=
  if_pos hi

/-- A head out of service passes its container, whatever the mode (R41). -/
theorem State.infeedDecision_of_out_of_service (hi : s.infeed = true)
    (hv : (s.head h).entry.service ≠ .inService) : s.infeedDecision h = s.passEntry .blocked h := by
  rw [State.infeedDecision, if_neg (by simp [hi])]
  cases sv : (s.head h).entry.service with
  | inService => exact absurd sv hv
  | blocked | autoBlocked _ => rfl

/-- A head in service decides on its container by the mode (R41). -/
theorem State.infeedDecision_of_in_service (hi : s.infeed = true) (hv : (s.head h).entry.service = .inService) :
    (s.mode = .production → s.infeedDecision h = s.fillStart h) ∧
    (s.mode = .drain → s.infeedDecision h = s.passEntry .drain h) ∧
    (s.mode = .halt → s.infeedDecision h = s.passEntry .halt h) ∧
    (s.mode = .setup → s.infeedDecision h = s.passEntry .setup h) := by
  rw [State.infeedDecision, if_neg (by simp [hi]), hv]
  cases s.mode <;> simp

end Sys2Proof.Machine

namespace Sys2Proof.Proofs

open Sys2Proof.Machine

/-- Settles O25: the drip check keeps the cycle, so that the state before it decides; the infeed goes by the level,
the service and the mode, and every pass is the one entry to PASS with the stack's top. -/
theorem infeedsStartAFillOrPass : Obligations.InfeedsStartAFillOrPass := by
  refine ⟨fun h s => ⟨s.onInfeed_of_idle h, s.onInfeed_of_not_idle h⟩, fun h s slot r top => ?_⟩
  simp only [← satInc_eq]
  refine ⟨s.infeedDecision_of_absent h, fun hi => ⟨fun hv => ?_, fun hv => ?_⟩⟩
  · rw [s.infeedDecision_of_out_of_service h hi hv]
    exact s.passEntry_of_top h top .blocked
  · obtain ⟨production, drain, halt, setup⟩ := s.infeedDecision_of_in_service h hi hv
    simp only [s.passEntry_of_top h top] at drain halt setup
    exact ⟨production, drain, halt, setup⟩

end Sys2Proof.Proofs
end

section
/-! ## Dose planning: the two roundings, the plan, the settle end (chapter 4) -/

namespace Sys2Proof.Machine

/-! ### The two roundings (R74) -/

/-- Rounding half up is the whole quotient of `a + b / 2` by `b`, with both sides doubled. -/
theorem roundHalfUp_eq_div {b : Nat} (hb : 0 < b) (a : Nat) : roundHalfUp a b = (2 * a + b) / (2 * b) := by
  have division : b * (a / b) + a % b = a := Nat.div_add_mod a b
  have rest : a % b < b := Nat.mod_lt a hb
  symm
  unfold roundHalfUp
  split
  · rw [Nat.div_eq_iff (by omega), Nat.add_mul, Nat.mul_left_comm, Nat.mul_comm (a / b)]
    omega
  · rw [Nat.div_eq_iff (by omega), Nat.mul_left_comm, Nat.mul_comm (a / b)]
    omega

/-- The exact quotient lies less than half a divisor above the rounded one, or half a divisor or less below it. -/
theorem roundHalfUp_within_half {b : Nat} (hb : 0 < b) (a : Nat) :
    2 * a < 2 * roundHalfUp a b * b + b ∧ 2 * roundHalfUp a b * b ≤ 2 * a + b := by
  have lower : (2 * a + b) / (2 * b) * (2 * b) ≤ 2 * a + b := Nat.div_mul_le_self _ _
  have upper : 2 * a + b < (2 * a + b) / (2 * b) * (2 * b) + 2 * b := Nat.lt_div_mul_add (by omega)
  rw [← roundHalfUp_eq_div hb, Nat.mul_left_comm, ← Nat.mul_assoc] at lower upper
  omega

theorem roundHalfUp_mono {a a' b : Nat} (hb : 0 < b) (h : a ≤ a') : roundHalfUp a b ≤ roundHalfUp a' b := by
  rw [roundHalfUp_eq_div hb, roundHalfUp_eq_div hb]
  exact Nat.div_le_div_right (by omega)

theorem roundHalfAway_of_nonneg {x : Int} (hx : 0 ≤ x) (b : Nat) :
    roundHalfAway x b = roundHalfUp x.natAbs b :=
  if_neg (by omega)

theorem roundHalfAway_of_neg {x : Int} (hx : x < 0) (b : Nat) :
    roundHalfAway x b = -(roundHalfUp x.natAbs b : Int) :=
  if_pos hx

theorem roundHalfAway_within_half {b : Nat} (hb : 0 < b) (x : Int) : 2 * (roundHalfAway x b * b - x).natAbs ≤ b := by
  obtain ⟨lower, upper⟩ := roundHalfUp_within_half hb x.natAbs
  rw [Nat.mul_assoc] at lower upper
  rcases lt_or_ge x 0 with hx | hx
  · rw [roundHalfAway_of_neg hx, Int.neg_mul, ← Int.natCast_mul]
    omega
  · rw [roundHalfAway_of_nonneg hx, ← Int.natCast_mul]
    omega

/-! ### The parts of a plan (R75 to R83) -/

/-- Angles 50 tenths apart stand at least 14 counts apart under every T of the configuration block (R76). -/
theorem windowCount_add_le {a b t : Nat} (ht : 1024 ≤ t) (h : a + 50 ≤ b) :
    windowCount a t + 14 ≤ windowCount b t := by
  have scaled : a * t + 50 * t ≤ b * t := by
    rw [← Nat.add_mul]
    exact Nat.mul_le_mul_right t h
  unfold windowCount
  omega

theorem windowCount_zero (t : Nat) : windowCount 0 t = 0 := by simp [windowCount]

/-- 3600 tenths are the whole turn. -/
theorem windowCount_turn (t : Nat) : windowCount 3600 t = t := by simp [windowCount]

/-- The range of D (R77). -/
theorem planDivisor_bounds {q : Nat} {trim : Int} (hq : 2000 ≤ q ∧ q ≤ 100000) (htrim : trim.natAbs ≤ 500) :
    19000000 ≤ planDivisor q trim ∧ planDivisor q trim ≤ 1050000000 := by
  have factor : 9500 ≤ (10000 + trim).toNat ∧ (10000 + trim).toNat ≤ 10500 := by omega
  exact ⟨Nat.mul_le_mul hq.1 factor.1, Nat.mul_le_mul hq.2 factor.2⟩

/-- The least target, met by the least volume under the greatest divisor (R78). -/
theorem le_pulsesOf {v d : Nat} (hv : 500 ≤ v) (hd : 0 < d ∧ d ≤ 1050000000) : 48 ≤ pulsesOf v d := by
  obtain ⟨lower, -⟩ := roundHalfUp_within_half hd.1 (v * 100000000)
  have scaled : (2 * pulsesOf v d + 1) * d ≤ (2 * pulsesOf v d + 1) * 1050000000 := Nat.mul_le_mul_left _ hd.2
  rw [Nat.add_mul, Nat.one_mul] at scaled
  unfold pulsesOf at scaled ⊢
  omega

theorem pulsesOf_mono {v v' d : Nat} (hd : 0 < d) (h : v ≤ v') : pulsesOf v d ≤ pulsesOf v' d :=
  roundHalfUp_mono hd (Nat.mul_le_mul_right _ h)

theorem closeThreshold_eq_max (pTarget lead : Nat) : closeThreshold pTarget lead = max 1 (pTarget - lead) := by
  unfold closeThreshold
  split <;> omega

theorem switchThreshold_eq_sub (pClose pSlow : Nat) : switchThreshold pClose pSlow = pClose - pSlow := by
  unfold switchThreshold
  split <;> omega

/-- What the plan needs of an acceptable recipe: the range of its volumes (R116). -/
theorem Recipe.volumes_of_acceptable {r : Recipe} (h : r.acceptable = true) : 500 ≤ r.vT ∧ r.vSlow ≤ r.vT := by
  simp only [Recipe.acceptable, Recipe.inRange, Bool.and_eq_true, decide_eq_true_eq] at h
  omega

/-- The five windows of an acceptable recipe (R117). -/
theorem Recipe.windows_of_acceptable {r : Recipe} (h : r.acceptable = true) :
    50 ≤ r.aPress ∧ r.aPress + 50 ≤ r.aFill ∧ r.aFill + 50 ≤ r.aClose ∧ r.aClose + 50 ≤ r.aSnift ∧
      r.aSnift + 50 ≤ r.aRelease ∧ r.aRelease ≤ 3550 := by
  simp only [Recipe.acceptable, Recipe.windowsOk, Bool.and_eq_true, decide_eq_true_eq] at h
  omega

/-- The converted windows of an acceptable recipe keep their order and their distance from the turn (R76). -/
theorem Recipe.windowCounts_ascend {r : Recipe} {t : Nat} (h : r.acceptable = true) (ht : 1024 ≤ t) :
    14 ≤ windowCount r.aPress t ∧ windowCount r.aPress t + 14 ≤ windowCount r.aFill t ∧
      windowCount r.aFill t + 14 ≤ windowCount r.aClose t ∧ windowCount r.aClose t + 14 ≤ windowCount r.aSnift t ∧
      windowCount r.aSnift t + 14 ≤ windowCount r.aRelease t ∧ windowCount r.aRelease t + 14 ≤ t := by
  obtain ⟨press, fill, close, snift, release, turn⟩ := Recipe.windows_of_acceptable h
  have first := windowCount_add_le ht (show 0 + 50 ≤ r.aPress by omega)
  have last := windowCount_add_le ht (show r.aRelease + 50 ≤ 3600 by omega)
  rw [windowCount_zero, Nat.zero_add] at first
  rw [windowCount_turn] at last
  exact ⟨first, windowCount_add_le ht fill, windowCount_add_le ht close, windowCount_add_le ht snift,
    windowCount_add_le ht release, last⟩

section

variable {slot : Slot} {r : Recipe} {e : HeadRecord} {t : Nat}

/-- PLAN_RANGE is a target above 65535 and nothing else (R79). -/
theorem formPlan_eq_none_iff : formPlan slot r e t = none ↔ 65535 < pulsesOf r.vT (planDivisor e.q e.trim) := by
  simp [formPlan]

theorem formPlan_target_le {p : Plan} (h : formPlan slot r e t = some p) :
    pulsesOf r.vT (planDivisor e.q e.trim) ≤ 65535 :=
  not_lt.mp fun above => by simp [formPlan_eq_none_iff.mpr above] at h

end

/-! ### The settle end (R84 to R89) -/

/-- The outcome decision, the tolerance written as a bound on each side (R85, R86). -/
theorem decideOutcome_eq (p : Plan) (q : Sequencer) :
    decideOutcome p q =
      if p.oMax < q.overrunCount.toNat then .overrun
      else if meteredVolume (totalPulses q) p.d ≤ p.vT + p.tolerance ∧
          p.vT ≤ meteredVolume (totalPulses q) p.d + p.tolerance then .ok
      else .outOfTol := by
  have sides : ((meteredVolume (totalPulses q) p.d : Int) - p.vT).natAbs ≤ p.tolerance ↔
      meteredVolume (totalPulses q) p.d ≤ p.vT + p.tolerance ∧
        p.vT ≤ meteredVolume (totalPulses q) p.d + p.tolerance := by omega
  simp only [decideOutcome, sides]

/-- The learned lead is the stepped lead brought into 0 to 4080 (R88). -/
theorem learnedLead_eq (l16 gain o : Nat) :
    learnedLead l16 gain o = (max 0 (min 4080 ((l16 : Int) + roundHalfAway ((o : Int) * 16 - l16) (2 ^ gain)))).toNat := by
  simp only [learnedLead]
  split
  · omega
  · split <;> omega

/-- The gate of the lead update (R87). -/
theorem learnsLead_iff (q : Sequencer) :
    learnsLead q = true ↔
      (q.outcome = some .ok ∨ q.outcome = some .outOfTol) ∧ q.resumed = false ∧ q.shortSettle = false := by
  simp [learnsLead, and_assoc]

/-- The settle end under a plan: the outcome is set, and the lead alone may move beside it (R84 to R89). -/
theorem settleEnd_eq {x : Head} {p : Plan} (hp : x.seq.plan = some p) :
    settleEnd x =
      { x with
        seq := x.seq.setOutcome (decideOutcome p x.seq)
        entry := if learnsLead (x.seq.setOutcome (decideOutcome p x.seq)) = true then
            { x.entry with l16 := learnedLead p.l16 p.leadGain x.seq.overrunCount.toNat }
          else x.entry } := by
  simp only [settleEnd, hp]
  split
  · rw [Sequencer.setOutcome_eq]
  · rfl

end Sys2Proof.Machine

namespace Sys2Proof.Proofs

open Sys2Proof.Machine

/-- Settles O29: a plan is its fields, the divisor's range bounds the target, both volumes round against the one
divisor, and each window stands 50 tenths above the one before it. -/
theorem plansKeepTheirChain : Obligations.PlansKeepTheirChain := by
  refine ⟨fun slot r e t hr hq htrim ht => ⟨formPlan_eq_none_iff, fun p h => ?_⟩,
    fun a b hb => roundHalfUp_within_half hb a,
    fun x b hb => ⟨fun hx => roundHalfAway_of_nonneg hx b, fun hx => roundHalfAway_of_neg hx b,
      roundHalfAway_within_half hb x⟩⟩
  obtain ⟨hvT, hvSlow⟩ := Recipe.volumes_of_acceptable hr
  have hd := planDivisor_bounds hq htrim
  have hpos : 0 < planDivisor e.q e.trim := by omega
  have hRange := formPlan_target_le h
  have hTarget := le_pulsesOf hvT ⟨hpos, hd.2⟩
  have hClose := closeThreshold_eq_max (pulsesOf r.vT (planDivisor e.q e.trim)) (leadPulses e.l16)
  rw [formPlan, if_neg (not_lt.mpr hRange)] at h
  obtain rfl := Option.some.inj h
  exact ⟨⟨rfl, hd⟩, ⟨rfl, hTarget, hRange⟩, ⟨rfl, rfl, pulsesOf_mono hpos hvSlow⟩, hClose,
    switchThreshold_eq_sub _ _, by dsimp only; omega, Recipe.windowCounts_ascend hr ht.1, rfl, rfl, rfl, rfl⟩

/-- Settles O30: the outcome is set or stands, and the gate, which reads that outcome, decides whether the lead of
the head's record moves. -/
theorem settleEndsDecideAndTeach : Obligations.SettleEndsDecideAndTeach := by
  intro x p hp o volume decided outcome learned
  have hdecided : decideOutcome p x.seq = decided := decideOutcome_eq p x.seq
  have hseq : x.seq.setOutcome (decideOutcome p x.seq) = { x.seq with outcome := some outcome } := by
    rw [Sequencer.setOutcome_eq, hdecided]
  have gate := learnsLead_iff { x.seq with outcome := some outcome }
  simp only [Option.some.injEq] at gate
  rw [settleEnd_eq hp, hseq]
  refine ⟨rfl, rfl, fun teaches => ?_, fun keeps => if_neg fun learns => keeps (gate.mp learns)⟩
  exact (if_pos (gate.mpr teaches)).trans (by rw [learnedLead_eq])

end Sys2Proof.Proofs
end

section
/-! ## What every completion and every head request rests on: bytes, lengths and the head number (R94, R203) -/

namespace Sys2Proof.Machine

/-! ### Fields of operand bytes (R203) -/

@[simp] theorem fieldAt_cons_succ (b : Byte) (ops : List Byte) (offset width : Nat) :
    fieldAt (b :: ops) (offset + 1) width = fieldAt ops offset width := rfl

@[simp] theorem fieldAt_zero_succ (b : Byte) (ops : List Byte) (width : Nat) :
    fieldAt (b :: ops) 0 (width + 1) = b.toNat + 256 * fieldAt ops 0 width := rfl

@[simp] theorem fieldAt_zero_zero (ops : List Byte) : fieldAt ops 0 0 = 0 := rfl

theorem leValue_four (b0 b1 b2 b3 : Byte) :
    leValue [b0, b1, b2, b3] = b0.toNat + 256 * b1.toNat + 65536 * b2.toNat + 16777216 * b3.toNat := by
  simp only [leValue]
  omega

/-- The bytes of the value that bytes carry are those bytes. -/
theorem leBytes_leValue (bs : List Byte) : leBytes bs.length (leValue bs) = bs := by
  induction bs with
  | nil => rfl
  | cons b bs ih =>
    have low : BitVec.ofNat 8 (b.toNat + 256 * leValue bs) = b := by
      apply BitVec.eq_of_toNat_eq
      rw [BitVec.toNat_ofNat]
      omega
    have rest : (b.toNat + 256 * leValue bs) / 256 = leValue bs := by omega
    rw [List.length_cons, leValue, leBytes, low, rest, ih]

/-! ### Values brought into a range (R104, R106, R182) -/

theorem clampNat_eq {lo hi : Nat} (h : lo ≤ hi) (x : Nat) : clampNat lo hi x = max lo (min x hi) := by
  unfold clampNat
  split_ifs <;> omega

theorem clampNat_bounds {lo hi : Nat} (h : lo ≤ hi) (x : Nat) : lo ≤ clampNat lo hi x ∧ clampNat lo hi x ≤ hi := by
  rw [clampNat_eq h]
  omega

theorem clampTrim_eq (m : Nat) (x : Int) : clampTrim m x = max (-(m : Int)) (min m x) := by
  unfold clampTrim
  split_ifs <;> omega

/-- A trim past the limit goes to the limit on its own side (R109). -/
theorem clampTrim_of_exceeds {m : Nat} {x : Int} (h : m < x.natAbs) :
    clampTrim m x = if x < 0 then -(m : Int) else m := by
  unfold clampTrim
  split_ifs <;> omega

theorem flagOf_eq_none {b : Byte} (h : b ≠ 0 ∧ b ≠ 1) : flagOf b.toNat = none := by
  have zero : b.toNat ≠ 0 := fun e => h.1 (BitVec.eq_of_toNat_eq e)
  have one : b.toNat ≠ 1 := fun e => h.2 (BitVec.eq_of_toNat_eq e)
  rw [flagOf, if_neg zero, if_neg one]

/-- A flag byte in range is a flag, and that flag's own byte (R204). -/
theorem flagOf_eq_some {b : Byte} (h : b = 0 ∨ b = 1) :
    flagOf b.toNat = some (decide (b = 1)) ∧ leBytes 1 (flagCode (decide (b = 1))) = [b] := by
  rcases h with rfl | rfl <;> decide

/-! ### A completion whose operand length is right (R195) -/

variable (s : State)

/-- Where the operand length is right, what the block serves is the response and the state that the completion leaves
behind. -/
theorem State.next_complete_of_serve {dt : Nat} {p : Port} {r : Request} {ops : List Byte} {lengths : List Nat}
    {serve : List Byte → State → Response × State} {answer : Response} {t : State} (hs : s.holds p r ops)
    (hl : ops.length ∈ lengths) (served : serve ops (s.elapse dt) = (answer, t)) :
    (Host.Outcome.next ((s.elapse dt).complete p r lengths serve) : Result) = .next (t.finish p answer) := by
  rw [State.complete_of_holds _ lengths serve ((s.elapse_holds dt p r ops).mpr hs), if_pos hl, served]

/-! ### The head number is checked first (R94) -/

section

variable {s} {head : Byte}

theorem onHeadOperand_of_lt {h : HeadId} (hh : head.toNat = h.val) (hn : h.val < s.cfg.n) (rest : List Byte)
    (serve : HeadId → Response × State) : onHeadOperand (head :: rest) s serve = serve h := by
  have named : headOf s.cfg.n (fieldAt (head :: rest) 0 1) = some h := by
    simp [headOf, hh, hn]
  rw [onHeadOperand, named]

theorem onHeadOperand_of_ge (hn : s.cfg.n ≤ head.toNat) (rest : List Byte) (serve : HeadId → Response × State) :
    onHeadOperand (head :: rest) s serve = (bare .badValue, s) := by
  have named : headOf s.cfg.n (fieldAt (head :: rest) 0 1) = none := by
    simp [headOf, Nat.not_lt.mpr hn]
  rw [onHeadOperand, named]

end

/-- A head request on a head at or above N is refused, whatever its length. -/
theorem State.complete_onHeadOperand_refused {p : Port} {r : Request} (lengths : List Nat) {head : Byte}
    {rest : List Byte} (serve : List Byte → State → HeadId → Response × State) (hn : s.cfg.n ≤ head.toNat)
    (hs : s.holds p r (head :: rest)) :
    s.complete p r lengths (fun ops x => onHeadOperand ops x (serve ops x)) = s.finish p (bare .badValue) := by
  rw [s.complete_of_holds _ _ hs]
  simp only [onHeadOperand_of_ge hn, ite_self]

/-- The completion of any head request is one completion that checks the head number first (R94). -/
theorem exec_of_head_request {c : Instr} {p : Port} {r : Request} (hc : completes c = some (p, r))
    (hr : r ∈ [Request.headRead, .headCalWrite, .headTrimSet, .headLeadSet, .headBlock, .headRelease,
      .headStatsClear]) :
    ∃ serve : List Byte → State → HeadId → Response × State, exec c s = .next
      ((s.elapse (elapsedOf c)).complete p r r.lengths fun ops x => onHeadOperand ops x (serve ops x)) := by
  cases c with
  | headRead | headCalWrite | headTrimSet | headLeadSet | headBlock | headRelease | headStatsClear =>
    obtain ⟨rfl, rfl⟩ := Prod.mk.inj (Option.some.inj hc)
    exact ⟨_, rfl⟩
  | _ =>
    simp [completes] at hc <;> simp [← hc.2] at hr

end Sys2Proof.Machine
end

section
/-! ## The head requests (R94 to R96, R103, R104, R106, R112) -/

namespace Sys2Proof.Machine

/-- HEAD_RELEASE acts on a head out of service, whatever kept it out (R96). -/
theorem HeadRecord.released_eq (e : HeadRecord) :
    e.released = if e.service = .inService then e else { e with service := .inService, faults := 0 } := by
  unfold HeadRecord.released
  cases e.service with
  | inService => rfl
  | blocked | autoBlocked _ => rfl

section

variable {s : State} {h : HeadId} {head : Byte}

/-! ### What each serves on a head below N -/

/-- HEAD_CAL_WRITE answers the bytes it was given (R103). -/
theorem serveHeadCalWrite_of_lt (hh : head.toNat = h.val) (hn : h.val < s.cfg.n) (q0 q1 q2 q3 : Byte) :
    serveHeadCalWrite [head, q0, q1, q2, q3] s =
      if 2000 ≤ leValue [q0, q1, q2, q3] ∧ leValue [q0, q1, q2, q3] ≤ 100000 then
        (⟨.ok, [q0, q1, q2, q3] ++ leBytes 2 ((s.head h).entry.epoch + 1).toNat⟩,
          s.updEntry h fun e => { e with q := leValue [q0, q1, q2, q3], epoch := e.epoch + 1 })
      else (bare .badValue, s) := by
  have field : fieldAt [head, q0, q1, q2, q3] 1 4 = leValue [q0, q1, q2, q3] := rfl
  have bytes : leBytes 4 (leValue [q0, q1, q2, q3]) = [q0, q1, q2, q3] := leBytes_leValue [q0, q1, q2, q3]
  rw [serveHeadCalWrite, onHeadOperand_of_lt hh hn, field]
  simp only [bytes]

theorem serveHeadTrimSet_of_flag (hh : head.toNat = h.val) (hn : h.val < s.cfg.n) (t0 t1 : Byte) {flag : Byte}
    (hf : flag = 0 ∨ flag = 1) :
    let trim := clampTrim s.tuning.trimLimit (BitVec.ofNat 16 (leValue [t0, t1])).toInt
    serveHeadTrimSet [head, t0, t1, flag] s =
      (⟨.ok, leSigned trim ++ [flag] ++ leBytes 2 ((s.head h).entry.epoch + 1).toNat⟩,
        s.updEntry h fun e => { e with trim := trim, frozen := decide (flag = 1), epoch := e.epoch + 1 }) := by
  have value : signedAt [head, t0, t1, flag] 1 = (BitVec.ofNat 16 (leValue [t0, t1])).toInt := rfl
  obtain ⟨frozen, byte⟩ := flagOf_eq_some hf
  have field : flagOf (fieldAt [head, t0, t1, flag] 3 1) = some (decide (flag = 1)) := frozen
  rw [serveHeadTrimSet, onHeadOperand_of_lt hh hn, field, value]
  simp only [byte]

theorem serveHeadTrimSet_of_no_flag (hh : head.toNat = h.val) (hn : h.val < s.cfg.n) (t0 t1 : Byte) {flag : Byte}
    (hf : flag ≠ 0 ∧ flag ≠ 1) : serveHeadTrimSet [head, t0, t1, flag] s = (bare .badValue, s) := by
  have field : flagOf (fieldAt [head, t0, t1, flag] 3 1) = none := flagOf_eq_none hf
  rw [serveHeadTrimSet, onHeadOperand_of_lt hh hn, field]

theorem serveHeadLeadSet_of_lt (hh : head.toNat = h.val) (hn : h.val < s.cfg.n) (l0 l1 : Byte) :
    serveHeadLeadSet [head, l0, l1] s =
      (⟨.ok, leBytes 2 (min (leValue [l0, l1]) 4080)⟩,
        s.updEntry h fun e => { e with l16 := min (leValue [l0, l1]) 4080 }) :=
  onHeadOperand_of_lt hh hn [l0, l1] _

theorem serveHeadBlock_of_lt (hh : head.toNat = h.val) (hn : h.val < s.cfg.n) :
    serveHeadBlock [head] s = (bare .ok, s.updEntry h fun e => { e with service := .blocked }) :=
  onHeadOperand_of_lt hh hn [] _

theorem serveHeadRelease_of_lt (hh : head.toNat = h.val) (hn : h.val < s.cfg.n) :
    serveHeadRelease [head] s = (bare .ok, s.updEntry h HeadRecord.released) :=
  onHeadOperand_of_lt hh hn [] _

theorem serveHeadStatsClear_of_lt (hh : head.toNat = h.val) (hn : h.val < s.cfg.n) :
    serveHeadStatsClear [head] s =
      (bare .ok, s.updHead h fun x =>
        { x with entry := x.entry.statsCleared, iface := { x.iface with glitches := 0 } }) :=
  onHeadOperand_of_lt hh hn [] _

end

end Sys2Proof.Machine

namespace Sys2Proof.Proofs

open Sys2Proof.Machine

/-- Settles O31: on a head below N each of the three writes answers what its block serves, the values read from their
bytes. -/
theorem calibrationWritesStoreTheirValues : Obligations.CalibrationWritesStoreTheirValues := by
  intro dt s h head hh hn
  refine ⟨fun q0 q1 q2 q3 hs => ?_, fun t0 t1 flag hs => ⟨fun hf => ?_, fun hf => ?_⟩, fun l0 l1 hs => ?_⟩
  · have served := serveHeadCalWrite_of_lt (s := s.elapse dt) hh hn q0 q1 q2 q3
    rw [leValue_four] at served
    refine ⟨fun inside => ?_, fun outside => ?_⟩
    · rw [if_pos inside] at served
      exact s.next_complete_of_serve hs (by simp [Request.lengths]) served
    · rw [if_neg (by omega)] at served
      exact s.next_complete_of_serve hs (by simp [Request.lengths]) served
  · have served := serveHeadTrimSet_of_flag (s := s.elapse dt) hh hn t0 t1 hf
    rw [clampTrim_eq] at served
    exact s.next_complete_of_serve hs (by simp [Request.lengths]) served
  · have served := serveHeadTrimSet_of_no_flag (s := s.elapse dt) hh hn t0 t1 hf
    exact s.next_complete_of_serve hs (by simp [Request.lengths]) served
  · have served := serveHeadLeadSet_of_lt (s := s.elapse dt) hh hn l0 l1
    exact s.next_complete_of_serve hs (by simp [Request.lengths]) served

/-- Settles O32: each of the three acts on a head below N as its block serves it, and every head request, whichever
its command, checks the head number first. -/
theorem serviceRequestsActOnOneHead : Obligations.ServiceRequestsActOnOneHead := by
  refine ⟨fun dt s h head hh hn => ⟨fun hs => ?_, fun hs => ?_, fun hs => ?_⟩, ?_⟩
  · exact s.next_complete_of_serve hs (by simp [Request.lengths]) (serveHeadBlock_of_lt hh hn)
  · rw [← HeadRecord.released_eq]
    exact s.next_complete_of_serve hs (by simp [Request.lengths]) (serveHeadRelease_of_lt hh hn)
  · exact s.next_complete_of_serve hs (by simp [Request.lengths]) (serveHeadStatsClear_of_lt hh hn)
  · intro c p r s head rest hc hr hn hs
    obtain ⟨serve, completion⟩ := exec_of_head_request s hc hr
    rw [completion, State.complete_onHeadOperand_refused (s.elapse (elapsedOf c)) _ serve hn
      ((s.elapse_holds _ _ _ _).mpr hs)]

end Sys2Proof.Proofs
end

section
/-! ## One record in its head's record (R97 to R102) -/

namespace Sys2Proof.Machine

/-- The threshold check acts on a head in service alone (R98). -/
theorem thresholdBlock_eq (threshold faults : Nat) (x : Service) :
    thresholdBlock threshold faults x = if x = .inService ∧ threshold ≤ faults then .autoBlocked .faults else x := by
  cases x with
  | inService => simp [thresholdBlock]
  | blocked | autoBlocked _ => simp [thresholdBlock]

theorem serviceAfter_of_ne_valve {o : FillOutcome} (ho : o ≠ .valve) (threshold faults : Nat) (x : Service) :
    serviceAfter o threshold faults x = thresholdBlock threshold faults x :=
  if_neg ho

theorem serviceAfter_of_valve (threshold faults : Nat) (x : Service) :
    serviceAfter .valve threshold faults x = valveBlock x :=
  if_pos rfl

/-- The six outcomes that count as a fault (R97). -/
theorem faultsAfter_of_fault {o : FillOutcome}
    (ho : o ∈ [FillOutcome.short, .overrun, .noFlow, .noPressure, .burst, .valve]) (n : Nat) :
    faultsAfter o n = min (n + 1) 8 := by
  cases o with
  | short | overrun | noFlow | noPressure | burst | valve => rfl
  | ok | outOfTol | aborted | notFilled => simp at ho

/-- Either outcome of a measured fill resets the count (R97). -/
theorem faultsAfter_of_measured {o : FillOutcome} (ho : o = .ok ∨ o = .outOfTol) (n : Nat) : faultsAfter o n = 0 := by
  rcases ho with rfl | rfl <;> rfl

/-- An outcome that says nothing of the head keeps the count (R97). -/
theorem faultsAfter_of_no_verdict {o : FillOutcome} (ho : o = .aborted ∨ o = .notFilled) (n : Nat) :
    faultsAfter o n = n := by
  rcases ho with rfl | rfl <;> rfl

/-- A history of at most 8 with a new entry in front keeps the seven newest behind it (R100). -/
theorem history_cons_take (o : FillOutcome) (l : List FillOutcome) :
    ((o :: l).take 8).head? = some o ∧ ((o :: l).take 8).length = min (l.length + 1) 8 ∧
      ∀ i, i < 7 → ((o :: l).take 8)[i + 1]? = l[i]? := by
  refine ⟨rfl, ?_, fun i hi => ?_⟩
  · rw [List.length_take, List.length_cons, Nat.min_comm]
  · rw [List.getElem?_take_of_lt (by omega), List.getElem?_cons_succ]

end Sys2Proof.Machine

namespace Sys2Proof.Proofs

open Sys2Proof.Machine

/-- Settles O34, each field of the record by the rule that moves it and each counter by its outcome. -/
theorem recordsMoveTheHeadTable : Obligations.RecordsMoveTheHeadTable := by
  intro o threshold e
  simp only [← satInc_eq, ← valveBlock_eq, ← thresholdBlock_eq]
  refine ⟨fun ho => faultsAfter_of_fault ho _, fun ho => faultsAfter_of_measured ho _,
    fun ho => faultsAfter_of_no_verdict ho _, fun ho => serviceAfter_of_ne_valve ho _ _ _, ?_,
    history_cons_take o e.history, rfl, ?_, ?_, ?_, ?_, ?_, ?_, ?_, ?_, ?_, ?_, rfl, rfl, rfl, rfl, rfl⟩
  · rintro rfl
    exact serviceAfter_of_valve threshold (faultsAfter .valve e.faults) e.service
  all_goals
    rintro rfl
    rfl

end Sys2Proof.Proofs
end

section
/-! ## TUNING_WRITE (R108 to R111, R182) -/

namespace Sys2Proof.Machine

/-- Each field of the stored block as the bytes give it, brought into its range (R182). -/
theorem tuningOf_seven (l0 l1 threshold turns drip t0 t1 : Byte) :
    tuningOf [l0, l1, threshold, turns, drip, t0, t1] =
      { trimLimit := min (l0.toNat + 256 * l1.toNat) 500
        blockThreshold := max 1 (min threshold.toNat 8)
        suspectTurns := min turns.toNat 3
        dripLimit := drip.toNat
        traceThreshold := max 1 (min (t0.toNat + 256 * t1.toNat) 256) } := by
  have dripFits : min drip.toNat 255 = drip.toNat := by omega
  simp [tuningOf, clampNat_eq, dripFits]

/-- The block that any bytes carry lies in its ranges (R182). -/
theorem tuningOf_bounds (ops : List Byte) :
    (tuningOf ops).trimLimit ≤ 500 ∧ (1 ≤ (tuningOf ops).blockThreshold ∧ (tuningOf ops).blockThreshold ≤ 8) ∧
      (tuningOf ops).suspectTurns ≤ 3 ∧ (tuningOf ops).dripLimit ≤ 255 ∧
      (1 ≤ (tuningOf ops).traceThreshold ∧ (tuningOf ops).traceThreshold ≤ 256) :=
  ⟨(clampNat_bounds (Nat.zero_le 500) _).2, clampNat_bounds (show 1 ≤ 8 by decide) _,
    (clampNat_bounds (Nat.zero_le 3) _).2, (clampNat_bounds (Nat.zero_le 255) _).2,
    clampNat_bounds (show 1 ≤ 256 by decide) _⟩

/-! ### One record under a new block -/

section

variable (old new : TuningBlock) (e : HeadRecord)

/-- The two acts of a tuning write move trim and epoch, and the service state, and nothing else (R108 to R110). -/
theorem HeadRecord.tuned_eq :
    let moved := new.trimLimit < old.trimLimit ∧ new.trimLimit < e.trim.natAbs
    let blocked := new.blockThreshold < old.blockThreshold ∧ e.service = .inService ∧ new.blockThreshold ≤ e.faults
    e.tuned old new = { e with
      trim := if moved then (if e.trim < 0 then -(new.trimLimit : Int) else new.trimLimit) else e.trim
      epoch := if moved then e.epoch + 1 else e.epoch
      service := if blocked then .autoBlocked .faults else e.service } := by
  intro moved blocked
  by_cases clamps : moved
  · by_cases tightened : new.blockThreshold < old.blockThreshold
    · simp [HeadRecord.tuned, moved, blocked, clamps, tightened, thresholdBlock_eq, clampTrim_of_exceeds clamps.2]
    · simp [HeadRecord.tuned, moved, blocked, clamps, tightened, clampTrim_of_exceeds clamps.2]
  · by_cases tightened : new.blockThreshold < old.blockThreshold
    · simp [HeadRecord.tuned, moved, blocked, clamps, tightened, thresholdBlock_eq]
    · simp [HeadRecord.tuned, moved, blocked, clamps, tightened]

/-- A tuning write changes a service state exactly where it auto-blocks (R110, R111). -/
theorem HeadRecord.tuned_service_ne_iff :
    (e.tuned old new).service ≠ e.service ↔
      new.blockThreshold < old.blockThreshold ∧ e.service = .inService ∧ new.blockThreshold ≤ e.faults := by
  rw [HeadRecord.tuned_eq]
  constructor
  · intro changed
    by_contra stays
    exact changed (if_neg stays)
  · intro blocks
    simp [blocks]

end

/-! ### The whole part under a new block -/

variable (new : TuningBlock) (s : State)

/-- Whether the new block auto-blocks some head (R110). -/
def State.tuneBlocks (new : TuningBlock) (s : State) : Bool :=
  s.anyHead fun x => decide ((x.entry.tuned s.tuning new).service ≠ x.entry.service)

theorem State.tuneBlocks_iff :
    s.tuneBlocks new = true ↔ ∃ h, new.blockThreshold < s.tuning.blockThreshold ∧
      (s.head h).entry.service = .inService ∧ new.blockThreshold ≤ (s.head h).entry.faults := by
  simp only [State.tuneBlocks, State.anyHead_iff, decide_eq_true_eq, HeadRecord.tuned_service_ne_iff]

/-- The line port alone keeps HEAD_BLOCKED (section 10.7). -/
theorem State.raise_headBlocked : s.raise .headBlocked = { s with line := s.line.take s.now .headBlocked } := rfl

/-- The block and the records change, and the line port takes HEAD_BLOCKED once if any head was auto-blocked (R108 to
R111). -/
theorem State.tune_eq :
    s.tune new = { s with
      tuning := new
      heads := (s.mapHeads fun _ x => { x with entry := x.entry.tuned s.tuning new }).heads
      line := if s.tuneBlocks new then s.line.take s.now .headBlocked else s.line } := by
  unfold State.tune State.tuneBlocks State.mapHeads
  by_cases blocks : s.anyHead (fun x => decide ((x.entry.tuned s.tuning new).service ≠ x.entry.service)) = true
  · rw [if_pos blocks, if_pos blocks, State.raise_headBlocked]
    rfl
  · rw [if_neg blocks, if_neg blocks]
    rfl

@[simp] theorem State.head_tune (h : HeadId) :
    (s.tune new).head h = { s.head h with entry := (s.head h).entry.tuned s.tuning new } := by
  rw [State.tune_eq]
  simp only [State.head, State.mapHeads, Vector.getElem_ofFn]

end Sys2Proof.Machine

namespace Sys2Proof.Proofs

open Sys2Proof.Machine

/-- Settles O35: the bytes bring each field into its range; the completion is `State.tune` with its answer, which
moves the block, the records and the line port alone. -/
theorem tuningWritesBindEveryHead : Obligations.TuningWritesBindEveryHead := by
  refine ⟨fun l0 l1 threshold turns drip t0 t1 => ?_, fun dt s ops hl hs => ?_⟩
  · rw [tuningOf_seven]
    exact ⟨rfl, rfl, rfl, rfl, rfl⟩
  · intro new lowered tightened
    have completion : exec (.tuningWrite dt) s =
        .next (((s.elapse dt).tune new).finish .line ⟨.ok, tuningBytes new⟩) :=
      s.next_complete_of_serve hs (by simp [Request.lengths, hl]) rfl
    have blocks := (s.elapse dt).tuneBlocks_iff new
    refine ⟨_, completion, ?_, ?_, tuningOf_bounds ops, fun h => ?_, fun some_head => ?_, fun no_head => ?_, ?_⟩
    · rw [State.finish_tuning, State.tune_eq]
    · rfl
    · rw [State.head_finish, State.head_tune, HeadRecord.tuned_eq]
      rfl
    · rw [State.tune_eq, if_pos (blocks.mpr some_head)]
      rfl
    · rw [State.tune_eq, if_neg fun b => no_head (blocks.mp b)]
      rfl
    · rw [State.tune_eq]
      rfl

end Sys2Proof.Proofs
end

section
/-! ## What the resets make of the stores (R92, R93, R115, R124, R170) -/

namespace Sys2Proof.Machine

variable (s : State)

theorem exec_powerOnReset (dt : Nat) : exec (.powerOnReset dt) s = .next (s.elapse dt).powerOn := rfl

/-- A completion of RESTART in SETUP or HALT resets every block and answers OK (R184). -/
theorem exec_restart_of_not_filling (dt : Nat) (hs : s.holds .line .restart [])
    (hm : s.mode = .setup ∨ s.mode = .halt) :
    exec (.restart dt) s = .next ((s.elapse dt).restarted.finish .line (bare .ok)) := by
  have served : serveRestart [] (s.elapse dt) = (bare .ok, (s.elapse dt).restarted) := by
    simp [serveRestart, s.mode.filling_eq_false_iff.mpr hm]
  exact s.next_complete_of_serve hs (by simp [Request.lengths]) served

@[simp] theorem State.head_powerOn (h : HeadId) :
    s.powerOn.head h = headPowerOn (s.head h).psPin (s.head h).sense :=
  s.head_mapHeads (fun _ x => headPowerOn x.psPin x.sense) h

@[simp] theorem State.head_restarted (h : HeadId) : s.restarted.head h = (s.head h).restarted :=
  s.head_mapHeads (fun _ x => x.restarted) h

/-- The power-on store holds the default recipe in slot 0 and nothing else (R115). -/
theorem recipesPowerOn_get (slot : Slot) :
    recipesPowerOn[slot.val] = if slot = 0 then some defaultRecipe else none := by
  simp only [recipesPowerOn, Vector.getElem_set, Vector.getElem_replicate, Fin.ext_iff, Fin.val_zero, @eq_comm Nat 0]

/-- RESTART loads the default recipe into an empty slot 0 and keeps every other slot (R115). -/
theorem State.restartRecipes_get (slot : Slot) :
    s.restartRecipes[slot.val] =
      if slot = 0 ∧ s.recipes[slot.val] = none then some defaultRecipe else s.recipes[slot.val] := by
  unfold State.restartRecipes
  by_cases first : slot = 0
  · subst first
    split
    · rename_i empty
      simp [empty]
    · rename_i r held
      simp [held]
  · have later : slot.val ≠ 0 := fun e => first (Fin.ext e)
    split
    · simp [first, later.symm]
    · simp [first]

/-- RESTART keeps BLOCKED, releases an auto-block and clears the rest of the record but for its calibration (R93). -/
theorem HeadRecord.restarted_eq (e : HeadRecord) :
    e.restarted = { entryPowerOn with
      service := if e.service = .blocked then .blocked else .inService
      q := e.q, trim := e.trim, frozen := e.frozen, epoch := e.epoch, l16 := e.l16 } := by
  unfold HeadRecord.restarted
  cases e.service with
  | blocked => rfl
  | inService | autoBlocked _ => rfl

end Sys2Proof.Machine

namespace Sys2Proof.Proofs

open Sys2Proof.Machine

/-- Settles O7: either reset is its own state built from the values of chapters 5, 6 and 9, read field by field. -/
theorem resetsSetTheStores : Obligations.ResetsSetTheStores := by
  refine ⟨fun dt s => ⟨⟨_, exec_powerOnReset s dt, rfl, rfl⟩, fun hs hm => ?_⟩, fun dt s => ?_, fun dt s hs hm => ?_⟩
  · refine ⟨_, exec_restart_of_not_filling s dt hs hm, ?_, ?_⟩
    · rw [State.finish_stack]
      rfl
    · rw [State.finish_mode]
      rfl
  · refine ⟨_, exec_powerOnReset s dt, fun h => ?_, ⟨recipesPowerOn_get 0, fun slot later => ?_⟩, rfl, rfl⟩
    · rw [State.head_powerOn]
      rfl
    · exact (recipesPowerOn_get slot).trans (if_neg later)
  · refine ⟨_, exec_restart_of_not_filling s dt hs hm, fun h => ?_, fun slot => ?_, ?_, ?_⟩
    · rw [State.head_finish, State.head_restarted]
      exact HeadRecord.restarted_eq _
    · simp only [State.finish_recipes]
      exact (s.elapse dt).restartRecipes_get slot
    · rw [State.finish_cfg]
      rfl
    · rw [State.finish_tuning]
      rfl

end Sys2Proof.Proofs
end

section
/-! ## The recipe requests: the slot, its use, and what each serves (R118 to R121) -/

namespace Sys2Proof.Machine

/-! ### Slot operands (R119 to R121, R125, R127) -/

/-- A byte below 8 names its slot. -/
theorem slotOf_eq_some {b : Byte} {slot : Slot} (hb : b.toNat = slot.val) (rest : List Byte) :
    slotOf (fieldAt (b :: rest) 0 1) = some slot := by
  simp [slotOf, hb]

theorem slotOf_eq_none {b : Byte} (hb : 8 ≤ b.toNat) (rest : List Byte) :
    slotOf (fieldAt (b :: rest) 0 1) = none := by
  simp [slotOf, Nat.not_lt.mpr hb]

/-- The slot number in an answer is the byte that named the slot. -/
theorem leBytes_slot {b : Byte} {slot : Slot} (hb : b.toNat = slot.val) : leBytes 1 slot.val = [b] := by
  rw [← hb]
  exact leBytes_leValue [b]

/-- Operands that the block refuses with BAD_VALUE are refused so whatever their length. -/
theorem State.next_complete_of_badValue (s : State) {dt : Nat} {p : Port} {r : Request} {ops : List Byte}
    (lengths : List Nat) {serve : List Byte → State → Response × State} (hs : s.holds p r ops)
    (served : serve ops (s.elapse dt) = (bare .badValue, s.elapse dt)) :
    (Host.Outcome.next ((s.elapse dt).complete p r lengths serve) : Result) =
      .next ((s.elapse dt).finish p (bare .badValue)) := by
  rw [State.complete_of_holds _ lengths serve ((s.elapse_holds dt p r ops).mpr hs), served, ite_self]

/-! ### Slots in use (R118) -/

theorem RecipeStack.names_iff (k : RecipeStack) (slot : Slot) :
    k.names slot = true ↔ ∃ e ∈ k.entries, e.slot = slot := by
  simp [RecipeStack.names]

theorem FillState.holdsPlan_iff (st : FillState) :
    st.holdsPlan = true ↔ st ∈ [FillState.armed, .pressurizing, .pressurized, .fillFast, .fillSlow, .held, .settle,
      .snift, .discharge] := by
  cases st <;> decide

theorem holdsPlanFrom_iff (slot : Slot) (x : Head) :
    holdsPlanFrom slot x = true ↔
      x.seq.state ∈ [FillState.armed, .pressurizing, .pressurized, .fillFast, .fillSlow, .held, .settle, .snift,
        .discharge] ∧ x.seq.plan.map Plan.slot = some slot := by
  rw [holdsPlanFrom, Bool.and_eq_true, FillState.holdsPlan_iff]
  cases x.seq.plan <;> simp

theorem State.planned_iff (s : State) (slot : Slot) :
    s.planned slot = true ↔ ∃ h, holdsPlanFrom slot (s.head h) = true :=
  s.anyHead_iff _

theorem State.inUse_iff (s : State) (slot : Slot) :
    s.inUse slot = true ↔ s.stack.names slot = true ∨ s.planned slot = true := by
  rw [State.inUse, Bool.or_eq_true]

/-! ### What the three requests serve on a slot -/

section

variable {s : State} {b : Byte} {slot : Slot}

theorem serveRecipeWrite_of_no_recipe (hb : b.toNat = slot.val) {rest : List Byte}
    (hr : recipeOf (b :: rest) 1 = none) :
    serveRecipeWrite (b :: rest) s = (bare .badValue, s) := by
  rw [serveRecipeWrite, slotOf_eq_some hb]
  simp only [hr]

/-- RECIPE_WRITE refuses a slot in use in PRODUCTION and DRAIN alone (R119). -/
theorem serveRecipeWrite_of_recipe (hb : b.toNat = slot.val) {rest : List Byte} {r : Recipe}
    (hr : recipeOf (b :: rest) 1 = some r) :
    serveRecipeWrite (b :: rest) s =
      if s.mode.filling = true ∧ s.inUse slot = true then (bare .inUse, s)
      else (⟨.ok, [b]⟩, s.setRecipe slot (some r)) := by
  rw [serveRecipeWrite, slotOf_eq_some hb]
  simp only [hr, leBytes_slot hb, Bool.and_eq_true]

/-- RECIPE_ERASE refuses a slot in the stack in any mode, and one with a plan in PRODUCTION and DRAIN (R120). -/
theorem serveRecipeErase_of_slot (hb : b.toNat = slot.val) :
    serveRecipeErase [b] s =
      if s.stack.names slot = true then (bare .inUse, s)
      else if s.mode.filling = true ∧ s.planned slot = true then (bare .inUse, s)
      else (⟨.ok, [b]⟩, s.setRecipe slot none) := by
  rw [serveRecipeErase, slotOf_eq_some hb]
  simp only [leBytes_slot hb, Bool.and_eq_true]

theorem serveRecipeRead_of_empty (hb : b.toNat = slot.val) (hr : s.recipes[slot.val] = none) :
    serveRecipeRead [b] s = (bare .notFound, s) := by
  rw [serveRecipeRead, slotOf_eq_some hb]
  simp only [hr]

theorem serveRecipeRead_of_recipe (hb : b.toNat = slot.val) {r : Recipe} (hr : s.recipes[slot.val] = some r) :
    serveRecipeRead [b] s =
      (⟨.ok, [b] ++ recipeBytes r ++ [if s.stack.names slot = true then 1 else 0,
        BitVec.ofNat 8 (s.countHeads (holdsPlanFrom slot))]⟩, s) := by
  have stackFlag : leBytes 1 (flagCode (s.stack.names slot)) = [if s.stack.names slot = true then 1 else 0] := by
    cases s.stack.names slot <;> rfl
  rw [serveRecipeRead, slotOf_eq_some hb]
  simp only [hr, leBytes_slot hb, stackFlag, List.append_assoc]
  rfl

/-- A slot above 7 is refused by each of the three, a write before its recipe is looked at (R119 to R121). -/
theorem serveRecipe_of_no_slot (hb : 8 ≤ b.toNat) (rest : List Byte) :
    serveRecipeWrite (b :: rest) s = (bare .badValue, s) ∧ serveRecipeErase (b :: rest) s = (bare .badValue, s) ∧
      serveRecipeRead (b :: rest) s = (bare .badValue, s) := by
  simp only [serveRecipeWrite, serveRecipeErase, serveRecipeRead, slotOf_eq_none hb, and_self]

end

end Sys2Proof.Machine
end

section
/-! ## The bytes of a recipe (R116, R117, R203) -/

namespace Sys2Proof.Machine

/-! ### Fields written and read -/

/-- A field read from bytes and written again is those bytes. -/
theorem leBytes_fieldAt_append {ops : List Byte} {offset width : Nat} (h : offset + width ≤ ops.length) :
    leBytes width (fieldAt ops offset width) ++ ops.drop (offset + width) = ops.drop offset := by
  have taken : ((ops.drop offset).take width).length = width := by
    rw [List.length_take, List.length_drop]
    omega
  have bytes := leBytes_leValue ((ops.drop offset).take width)
  rw [taken] at bytes
  rw [fieldAt, bytes, ← List.drop_drop, List.take_append_drop]

theorem fieldAt_lt (ops : List Byte) (offset width : Nat) : fieldAt ops offset width < 256 ^ width := by
  have bound (bs : List Byte) : leValue bs < 256 ^ bs.length := by
    induction bs with
    | nil => exact Nat.one_pos
    | cons b bs ih =>
      have byte := b.isLt
      rw [leValue, List.length_cons, Nat.pow_succ]
      omega
  exact (bound _).trans_le (Nat.pow_le_pow_right (by omega) (List.length_take_le _ _))

/-- A flag is read exactly from its own code (R204). -/
theorem flagOf_eq_some_iff (n : Nat) (flag : Bool) : flagOf n = some flag ↔ n = flagCode flag := by
  unfold flagOf
  split
  · cases flag <;> simp [flagCode, *]
  · split <;> cases flag <;> simp [flagCode, *]

/-! ### A recipe written and read -/

/-- The bytes carry a recipe exactly when their fields, the flag byte read as a flag, are an acceptable one. -/
theorem recipeOf_eq_some_iff (b : Byte) (rest : List Byte) (r : Recipe) :
    recipeOf (b :: rest) 1 = some r ↔
      ∃ flag, fieldAt rest 30 1 = flagCode flag ∧ recipeFields rest 0 flag = r ∧ r.acceptable = true := by
  have fields (flag : Bool) : recipeFields (b :: rest) 1 flag = recipeFields rest 0 flag := by
    simp [recipeFields, Nat.add_comm 1]
  simp only [← flagOf_eq_some_iff]
  unfold recipeOf
  rw [Nat.add_comm 1, fieldAt_cons_succ]
  cases flagOf (fieldAt rest 30 1) with
  | none => simp
  | some flag =>
    simp only [fields, Option.some.injEq, exists_eq_left', Option.ite_none_right_eq_some]
    constructor
    · rintro ⟨ok, rfl⟩
      exact ⟨rfl, ok⟩
    · rintro ⟨rfl, ok⟩
      exact ⟨ok, rfl⟩

/-- Fields read from 31 bytes and written again are those bytes. -/
theorem recipeBytes_recipeFields {rest : List Byte} (hl : rest.length = 31) {flag : Bool}
    (hf : fieldAt rest 30 1 = flagCode flag) : recipeBytes (recipeFields rest 0 flag) = rest := by
  have field (offset width : Nat) (h : offset + width ≤ 31) :
      leBytes width (fieldAt rest offset width) ++ rest.drop (offset + width) = rest.drop offset :=
    leBytes_fieldAt_append (hl ▸ h)
  have last : leBytes 1 (fieldAt rest 30 1) = rest.drop 30 := by
    rw [← field 30 1 (by omega), List.drop_eq_nil_of_le (by omega), List.append_nil]
  have product : (BitVec.ofNat 16 (fieldAt rest 0 2)).toNat = fieldAt rest 0 2 :=
    Nat.mod_eq_of_lt (fieldAt_lt rest 0 2)
  simp only [recipeBytes, recipeFields, product, ← hf, last, List.append_assoc, Nat.zero_add,
    field 28 2 (by omega), field 26 2 (by omega), field 24 2 (by omega), field 22 2 (by omega),
    field 20 2 (by omega), field 18 2 (by omega), field 16 2 (by omega), field 14 2 (by omega),
    field 13 1 (by omega), field 12 1 (by omega), field 11 1 (by omega), field 9 2 (by omega),
    field 8 1 (by omega), field 6 2 (by omega), field 4 2 (by omega), field 2 2 (by omega)]
  exact field 0 2 (by omega)

/-- The ranges of R116 and the distances of R117, one by one. -/
theorem Recipe.acceptable_iff (r : Recipe) :
    r.acceptable = true ↔
      (500 ≤ r.vT ∧ r.vT ≤ 30000) ∧ r.vSlow ≤ r.vT ∧ (1 ≤ r.tolerance ∧ r.tolerance ≤ 500) ∧ r.deadBand ≤ 100 ∧
      (r.deadBand < r.grossLimit ∧ r.grossLimit ≤ 2000) ∧ r.trimGain ≤ 6 ∧ r.leadGain ≤ 6 ∧ r.oMax ≤ 255 ∧
      (20 ≤ r.noFlow ∧ r.noFlow ≤ 2000) ∧ r.settle ≤ 2000 ∧ (20 ≤ r.snift ∧ r.snift ≤ 2000) ∧
      50 ≤ r.aPress ∧ r.aPress + 50 ≤ r.aFill ∧ r.aFill + 50 ≤ r.aClose ∧ r.aClose + 50 ≤ r.aSnift ∧
      r.aSnift + 50 ≤ r.aRelease ∧ r.aRelease ≤ 3550 := by
  simp only [Recipe.acceptable, Recipe.inRange, Recipe.windowsOk, Bool.and_eq_true, decide_eq_true_eq,
    Nat.succ_le_iff, and_assoc]

/-- The fields of an acceptable recipe fit their bytes, so that they are read as they were written. -/
theorem recipeFields_recipeBytes {r : Recipe} (h : r.acceptable = true) :
    recipeFields (recipeBytes r) 0 r.resumeReject = r ∧ fieldAt (recipeBytes r) 30 1 = flagCode r.resumeReject := by
  have flag (f : Bool) : flagCode f < 256 := by cases f <;> decide
  have bounds := r.acceptable_iff.mp h
  clear h
  cases r
  simp only at bounds
  simp (disch := omega) [recipeBytes, recipeFields, leBytes, Nat.mod_eq_of_lt, Nat.mod_add_div, flag]

/-- 31 bytes carry a recipe exactly when they are those of an acceptable one. -/
theorem recipeOf_iff_bytes {rest : List Byte} (hl : rest.length = 31) (b : Byte) (r : Recipe) :
    recipeOf (b :: rest) 1 = some r ↔ rest = recipeBytes r ∧ r.acceptable = true := by
  rw [recipeOf_eq_some_iff]
  constructor
  · rintro ⟨flag, hf, rfl, ok⟩
    exact ⟨(recipeBytes_recipeFields hl hf).symm, ok⟩
  · rintro ⟨rfl, ok⟩
    obtain ⟨fields, flag⟩ := recipeFields_recipeBytes ok
    exact ⟨r.resumeReject, flag, fields, ok⟩

end Sys2Proof.Machine

namespace Sys2Proof.Proofs

open Sys2Proof.Machine

/-- Settles O37: once use is spelled as the model has it, each request is what its block serves on the named slot; a
slot above 7 is refused before the length is; the bytes of a recipe are read field by field. -/
theorem recipeRequestsGuardTheSlots : Obligations.RecipeRequestsGuardTheSlots := by
  refine ⟨fun dt s b => ?_, fun b rest r hl => recipeOf_iff_bytes hl b r, Recipe.acceptable_iff⟩
  simp only [← Mode.filling_iff, ← RecipeStack.names_iff, ← holdsPlanFrom_iff, ← State.planned_iff, ← State.inUse_iff,
    Bool.decide_eq_true]
  refine ⟨fun slot rest hb hl hs => ⟨fun bad => ?_, fun r good => ?_⟩, fun slot hb hs => ?_,
    fun slot hb hs => ⟨fun empty => ?_, fun r stored => ?_⟩,
    fun above => ?_⟩
  · exact s.next_complete_of_serve hs (by simp [Request.lengths, hl]) (serveRecipeWrite_of_no_recipe hb bad)
  · have served := serveRecipeWrite_of_recipe (s := s.elapse dt) hb good
    have answered {answer : Response} {t : State} (h : serveRecipeWrite (b :: rest) (s.elapse dt) = (answer, t)) :
        exec (.recipeWrite dt) s = .next (t.finish .line answer) :=
      s.next_complete_of_serve hs (by simp [Request.lengths, hl]) h
    exact ⟨fun guarded used => answered (served.trans (if_pos ⟨guarded, used⟩)),
      fun free => answered (served.trans (if_neg (not_and_or.mpr free)))⟩
  · have served := serveRecipeErase_of_slot (s := s.elapse dt) hb
    have answered {answer : Response} {t : State} (h : serveRecipeErase [b] (s.elapse dt) = (answer, t)) :
        exec (.recipeErase dt) s = .next (t.finish .line answer) :=
      s.next_complete_of_serve hs (by simp [Request.lengths]) h
    refine ⟨fun named => answered (served.trans (if_pos named)), fun unnamed => ?_⟩
    have unstacked := served.trans (if_neg unnamed)
    exact ⟨fun guarded planned => answered (unstacked.trans (if_pos ⟨guarded, planned⟩)),
      fun free => answered (unstacked.trans (if_neg (not_and_or.mpr free)))⟩
  · exact s.next_complete_of_serve hs (by simp [Request.lengths]) (serveRecipeRead_of_empty hb empty)
  · exact s.next_complete_of_serve hs (by simp [Request.lengths]) (serveRecipeRead_of_recipe hb stored)
  · have refused (rest : List Byte) := serveRecipe_of_no_slot (s := s.elapse dt) above rest
    obtain ⟨-, erase, read⟩ := refused []
    refine ⟨fun rest hs => ?_, fun hs => s.next_complete_of_badValue _ hs erase,
      fun hs => s.next_complete_of_badValue _ hs read⟩
    obtain ⟨write, -, -⟩ := refused rest
    exact s.next_complete_of_badValue _ hs write

end Sys2Proof.Proofs
end

section
/-! ## The stack requests (R125 to R127) -/

namespace Sys2Proof.Machine

/-- What a push carries: a slot byte, and after it either no count or one of two bytes (R125). -/
def PushOperands (b : Byte) (ops : List Byte) (count : Option Nat) : Prop :=
  ops = [b] ∧ count = none ∨ ∃ c0 c1 : Byte, ops = [b, c0, c1] ∧ count = some (c0.toNat + 256 * c1.toNat)

section

variable {s : State} {b : Byte} {slot : Slot} {ops : List Byte} {count : Option Nat}

theorem PushOperands.length_mem (h : PushOperands b ops count) : ops.length ∈ Request.stackPush.lengths := by
  rcases h with ⟨rfl, -⟩ | ⟨c0, c1, rfl, -⟩ <;> simp [Request.lengths]

/-- A push checks the slot's range, then the count, then the store, and the entry has the count given (R125). -/
theorem serveStackPush_of_operands (h : PushOperands b ops count) (hb : b.toNat = slot.val) :
    serveStackPush ops s =
      if count = some 0 then (bare .badValue, s)
      else if s.recipes[slot.val] = none then (bare .notFound, s)
      else (⟨.ok, stackBytes (s.push ⟨slot, count⟩)⟩, s.push ⟨slot, count⟩) := by
  rcases h with ⟨rfl, rfl⟩ | ⟨c0, c1, rfl, rfl⟩
  · rw [serveStackPush, slotOf_eq_some hb]
    simp
  · rw [serveStackPush, slotOf_eq_some hb]
    simp

theorem serveStackPush_of_no_slot (h : PushOperands b ops count) (hb : 8 ≤ b.toNat) :
    serveStackPush ops s = (bare .badValue, s) := by
  rcases h with ⟨rfl, -⟩ | ⟨c0, c1, rfl, -⟩
  · rw [serveStackPush, slotOf_eq_none hb]
  · rw [serveStackPush, slotOf_eq_none hb]

theorem serveStackPush_of_zero (h : PushOperands b ops (some 0)) : serveStackPush ops s = (bare .badValue, s) := by
  by_cases hb : b.toNat < 8
  · exact (serveStackPush_of_operands (slot := ⟨b.toNat, hb⟩) h rfl).trans (if_pos rfl)
  · exact serveStackPush_of_no_slot h (not_lt.mp hb)

/-- A stack below its depth grows by the pushed entry (R125). -/
theorem State.push_of_room (e : StackEntry) (h : s.stack.entries.length < s.cfg.depth) :
    s.push e = s.setEntries (e :: s.stack.entries) :=
  if_pos h

/-- A full stack loses its bottom entry to the pushed one, with a spill counted and a notice (R125, R133). -/
theorem State.push_of_full (e : StackEntry) (h : s.cfg.depth ≤ s.stack.entries.length) :
    s.push e = ({ s with
      stack := ⟨e :: s.stack.entries.dropLast, satInc s.stack.spills⟩ }).raise .stackNotice :=
  if_neg (not_lt.mpr h)

/-- A pop at the floor is refused (R126). -/
theorem serveStackPop_of_floor (h : s.stack.entries.length ≤ 1) : serveStackPop [] s = (bare .floor, s) := by
  unfold serveStackPop
  split
  · rename_i entries
    simp [entries] at h
  · rfl

theorem serveStackPop_of_two (h : 2 ≤ s.stack.entries.length) :
    serveStackPop [] s =
      (⟨.ok, stackBytes (s.setEntries s.stack.entries.tail)⟩, s.setEntries s.stack.entries.tail) := by
  unfold serveStackPop
  split
  · rename_i _ e rest entries
    rw [entries, List.tail_cons]
  · rename_i short
    match entries : s.stack.entries with
    | [] | [_] => simp [entries] at h
    | top :: e :: rest => exact absurd entries (short top e rest)

/-- A replace checks the slot's range, then the store, and the new top carries no count (R127). -/
theorem serveStackReplace_of_slot (hb : b.toNat = slot.val) :
    serveStackReplace [b] s =
      if s.recipes[slot.val] = none then (bare .notFound, s)
      else (⟨.ok, stackBytes (s.setEntries (⟨slot, none⟩ :: s.stack.entries.tail))⟩,
        s.setEntries (⟨slot, none⟩ :: s.stack.entries.tail)) := by
  rw [serveStackReplace, slotOf_eq_some hb]
  simp only [List.drop_one]

theorem serveStackReplace_of_no_slot (hb : 8 ≤ b.toNat) : serveStackReplace [b] s = (bare .badValue, s) := by
  rw [serveStackReplace, slotOf_eq_none hb]

end

end Sys2Proof.Machine

namespace Sys2Proof.Proofs

open Sys2Proof.Machine

/-- Settles O38: each request answers what its block serves, with the refusals in the order of the block's checks; a
push adds its entry below the depth and spills the bottom one at it. -/
theorem stackRequestsChangeTheTop : Obligations.StackRequestsChangeTheTop := by
  intro dt s
  simp only [← satInc_eq]
  refine ⟨fun b ops count (operands : PushOperands b ops count) hs => ?_,
    fun hs => ⟨fun floor => ?_, fun two => ?_⟩, fun b hs => ⟨fun above => ?_, fun slot hb => ?_⟩⟩
  · have answered {answer : Response} {t : State} (h : serveStackPush ops (s.elapse dt) = (answer, t)) :
        exec (.stackPush dt) s = .next (t.finish .line answer) :=
      s.next_complete_of_serve hs operands.length_mem h
    refine ⟨fun bad => answered ?_, fun slot hb nonzero => ?_⟩
    · rcases bad with above | rfl
      · exact serveStackPush_of_no_slot operands above
      · exact serveStackPush_of_zero operands
    · have served := (serveStackPush_of_operands (s := s.elapse dt) operands hb).trans (if_neg nonzero)
      refine ⟨fun empty => answered (served.trans (if_pos empty)), fun held room => ?_, fun held full => ?_⟩
      · have pushed := served.trans (if_neg held)
        rw [State.push_of_room (s := s.elapse dt) _ room] at pushed
        exact answered pushed
      · have pushed := served.trans (if_neg held)
        rw [State.push_of_full (s := s.elapse dt) _ full] at pushed
        exact answered pushed
  · exact s.next_complete_of_serve hs (by simp [Request.lengths]) (serveStackPop_of_floor floor)
  · exact s.next_complete_of_serve hs (by simp [Request.lengths]) (serveStackPop_of_two two)
  · exact s.next_complete_of_badValue _ hs (serveStackReplace_of_no_slot above)
  · have served := serveStackReplace_of_slot (s := s.elapse dt) hb
    exact ⟨fun empty => s.next_complete_of_serve hs (by simp [Request.lengths]) (served.trans (if_pos empty)),
      fun held => s.next_complete_of_serve hs (by simp [Request.lengths]) (served.trans (if_neg held))⟩

end Sys2Proof.Proofs
end

section
/-! ## Fill starts (R42, R79, R129) -/

namespace Sys2Proof.Machine

variable (s : State) (h : HeadId)

theorem State.topRecipe_of_entries {top : StackEntry} {below : List StackEntry} {r : Recipe}
    (he : s.stack.entries = top :: below) (hr : s.recipes[top.slot.val] = some r) :
    s.topRecipe = some (top.slot, r) := by
  simp only [State.topRecipe, he, hr, Option.map_some]

@[simp] theorem State.takeTop_spills : s.takeTop.stack.spills = s.stack.spills := by
  unfold State.takeTop
  split
  · simp
  · rfl

@[simp] theorem State.takeTop_entries : s.takeTop.stack.entries = takeEntries s.stack.entries := by
  unfold State.takeTop
  split
  · simp
  · rfl

@[simp] theorem State.head_takeTop : s.takeTop.head h = s.head h := by
  unfold State.takeTop
  split
  · rw [State.head_raise]
    rfl
  · rfl

/-- The line port takes STACK_NOTICE at a pop, and nothing else (R129, R133). -/
theorem State.takeTop_line_events :
    s.takeTop.line.events =
      if autoPops s.stack.entries = true then s.line.events ||| 0x0010 else s.line.events := by
  unfold State.takeTop
  split
  · rfl
  · rfl

/-! ### What a fill start leaves of the entries, by the top's count (R129) -/

section

variable {top : StackEntry} (below : List StackEntry)

theorem takeEntries_of_no_count (hc : top.count = none) :
    takeEntries (top :: below) = top :: below ∧ autoPops (top :: below) = false := by
  simp [takeEntries, autoPops, hc]

theorem takeEntries_of_count {n : Nat} (hc : top.count = some n) (hn : 1 < n) :
    takeEntries (top :: below) = ⟨top.slot, some (n - 1)⟩ :: below ∧ autoPops (top :: below) = false := by
  simp [takeEntries, autoPops, hc, hn]

theorem takeEntries_of_last (hc : top.count = some 1) {below : List StackEntry} (hb : below ≠ []) :
    takeEntries (top :: below) = below ∧ autoPops (top :: below) = true := by
  simp [takeEntries, autoPops, hc, hb]

theorem takeEntries_of_last_at_floor (hc : top.count = some 1) :
    takeEntries [top] = [⟨top.slot, none⟩] ∧ autoPops [top] = false := by
  simp [takeEntries, autoPops, hc]

end

/-! ### What a fill start makes of the head (R42, R79) -/

/-- What a fill start makes of the head's record and cycle: the start is counted, and the head takes its plan or passes
with PLAN_RANGE. -/
def Head.started (now : Nat) (cfg : ConfigBlock) (slot : Slot) (r : Recipe) (x : Head) : Head :=
  let counted : Head := { x with entry := { x.entry with
    stats := { x.entry.stats with fillsStarted := satInc x.entry.stats.fillsStarted } } }
  match formPlan slot r x.entry cfg.t with
  | some p => counted.arm now cfg p r
  | none => counted.enterPass now cfg .planRange slot r

/-- A fill start takes the top and starts the head, and nothing else. -/
theorem State.fillStart_of_top {slot : Slot} {r : Recipe} (top : s.topRecipe = some (slot, r)) :
    s.fillStart h = s.takeTop.updHead h (Head.started s.now s.cfg slot r) := by
  simp only [State.fillStart, top, State.updHead_updHead]
  cases plan : formPlan slot r (s.head h).entry s.cfg.t with
  | some p | none =>
    refine State.updHead_congr _ h ?_
    simp only [State.head_takeTop, Head.started, plan, Function.comp_apply]

/-- The plan a head is armed with names the slot it comes from and the head's epoch. -/
theorem formPlan_slot_epoch {e : HeadRecord} {t : Nat} {slot : Slot} {r : Recipe} {p : Plan}
    (hp : formPlan slot r e t = some p) : p.slot = slot ∧ p.epoch = e.epoch := by
  rw [formPlan, if_neg (not_lt.mpr (formPlan_target_le hp))] at hp
  obtain rfl := Option.some.inj hp
  exact ⟨rfl, rfl⟩

section

variable {now : Nat} {cfg : ConfigBlock} {slot : Slot} {r : Recipe} {x : Head}

theorem Head.started_entry :
    (x.started now cfg slot r).entry = { x.entry with
      stats := { x.entry.stats with fillsStarted := satInc x.entry.stats.fillsStarted } } := by
  unfold Head.started
  split <;> rfl

theorem Head.started_of_plan {p : Plan} (hp : formPlan slot r x.entry cfg.t = some p) :
    (x.started now cfg slot r).seq = { seqReset with
      state := .armed, plan := some p,
      header := some ⟨slot, r.product, r.vT, x.entry.epoch, p.cRelease, r.resumeReject⟩ } := by
  obtain ⟨rfl, epoch⟩ := formPlan_slot_epoch hp
  simp only [Head.started, hp, ← epoch]
  rfl

theorem Head.started_of_no_plan (hp : formPlan slot r x.entry cfg.t = none) :
    (x.started now cfg slot r).seq.state = .pass ∧ (x.started now cfg slot r).seq.outcome = some .notFilled ∧
      (x.started now cfg slot r).seq.reason = some .planRange ∧ (x.started now cfg slot r).seq.plan = none := by
  simp only [Head.started, hp, Head.enterPass_eq, seqReset, and_self]

end

end Sys2Proof.Machine

namespace Sys2Proof.Proofs

open Sys2Proof.Machine

/-- Settles O26: a fill start is the taking of the top, which the plan does not touch, and the start of one head. -/
theorem fillStartsTakeTheTop : Obligations.FillStartsTakeTheTop := by
  intro h s top below r he hr t x
  have taken : t = s.takeTop.updHead h (Head.started s.now s.cfg top.slot r) :=
    s.fillStart_of_top h (s.topRecipe_of_entries he hr)
  have spills : t.stack.spills = s.stack.spills := by
    rw [taken, State.updHead_stack, State.takeTop_spills]
  have entries : t.stack.entries = takeEntries (top :: below) := by
    rw [taken, State.updHead_stack, State.takeTop_entries, he]
  have events : t.line.events =
      if autoPops (top :: below) = true then s.line.events ||| 0x0010 else s.line.events := by
    rw [taken, State.updHead_line, State.takeTop_line_events, he]
  have head : t.head h = x.started s.now s.cfg top.slot r := by
    rw [taken, State.head_updHead_same, State.head_takeTop]
  simp only [← satInc_eq]
  rw [spills, entries, events, head]
  refine ⟨rfl, fun hc => ?_, fun n hc hn => ?_, fun hc hb => ?_, fun hc hb => ?_, Head.started_entry,
    fun p hp => Head.started_of_plan hp, fun hp => Head.started_of_no_plan hp, fun j hj => ?_⟩
  · simp [takeEntries_of_no_count below hc]
  · simp [takeEntries_of_count below hc hn]
  · simp [takeEntries_of_last hc hb]
  · subst hb
    simp [takeEntries_of_last_at_floor hc]
  · rw [taken, State.head_updHead_other _ _ _ _ (Ne.symm hj), State.head_takeTop]

end Sys2Proof.Proofs
end

section
/-! ## A record handed to the queue: its numbers, its place and its events (R135 to R141, R147) -/

namespace Sys2Proof.Machine

/-! ### Events raised under a condition (R140, R141, R197) -/

/-- An event raised where `c` holds, as the events of a storage decision are. -/
def State.raiseWhen (s : State) (c : Bool) (k : EventKind) : State := if c then s.raise k else s

/-- A conditional event sets its bit on each port that keeps its kind, where the condition holds. -/
theorem State.events_raiseWhen (s : State) (c : Bool) (k : EventKind) (p : Port) :
    ((s.raiseWhen c k).port p).events = (s.port p).events ||| if c && keepsKind p k then k.bit else 0 := by
  cases c with
  | false => exact BitVec.or_zero.symm
  | true =>
    rw [State.raiseWhen, if_pos rfl, State.port_raise]
    cases keepsKind p k with
    | false => exact BitVec.or_zero.symm
    | true => rfl

@[simp] theorem State.raiseWhen_queue (s : State) (c : Bool) (k : EventKind) : (s.raiseWhen c k).queue = s.queue := by
  cases c with
  | false => rfl
  | true => exact s.raise_queue k

/-! ### Numbering and storing (R135 to R139, R147) -/

/-- A record has a serial exactly when it is neither BURST nor CLEARED (R136). -/
theorem RecordDraft.hasSerial_iff (d : RecordDraft) :
    d.hasSerial = true ↔ d.outcome ≠ .burst ∧ d.flags.cleared = false := by
  simp [RecordDraft.hasSerial]

theorem TraceQueue.stores_iff (mode : TraceMode) (q : TraceQueue) :
    q.stores mode = true ↔ ¬ 256 ≤ q.held.length ∨ mode = .roll := by
  rw [TraceQueue.stores, Bool.or_eq_true, decide_eq_true_eq, decide_eq_true_eq, not_le, queueCapacity]

section

variable (mode : TraceMode) (d : RecordDraft) (q : TraceQueue)

theorem TraceQueue.accept_of_room (room : q.held.length < 256) :
    q.accept mode d = { q.counted d with held := q.held ++ [q.number d] } :=
  if_pos room

theorem TraceQueue.accept_roll (full : 256 ≤ q.held.length) :
    q.accept .roll d =
      ({ q.counted d with held := q.held.tail ++ [q.number d], evicted := q.evicted + 1 }).bringUp := by
  rw [← List.drop_one]
  exact if_neg (not_lt.mpr full)

theorem TraceQueue.accept_hold (full : 256 ≤ q.held.length) :
    q.accept .hold d = { q.counted d with lost := q.lost + 1 } :=
  if_neg (not_lt.mpr full)

/-- Whatever becomes of the record, both numbers move as they were given, and the counts of the other removals
stay (R135, R136). -/
theorem TraceQueue.accept_numbers :
    (q.accept mode d).created = q.created + 1 ∧ (q.accept mode d).nextSerial = (q.counted d).nextSerial ∧
    (q.accept mode d).matched = q.matched ∧ (q.accept mode d).expired = q.expired ∧
    (q.accept mode d).cleared = q.cleared := by
  rcases q.accept_cases mode d with ⟨-, h⟩ | ⟨-, -, h⟩ | ⟨-, -, h⟩ <;> rw [h] <;> exact ⟨rfl, rfl, rfl, rfl, rfl⟩

end

/-! ### The events of the storage decision (R140, R141) -/

section

variable (d : RecordDraft) (s : State)

/-- The state with the record in its queue, then the three events of its storage decision, each under its condition. -/
theorem State.enqueue_eq_raiseWhen :
    s.enqueue d =
      ((({ s with queue := s.queue.accept s.cfg.traceMode d }
        |>.raiseWhen (decide (256 ≤ s.queue.held.length)) .traceLoss)
        |>.raiseWhen (s.queue.stores s.cfg.traceMode && d.flags.reject) .rejectStored)
        |>.raiseWhen (s.queue.stores s.cfg.traceMode &&
            decide (s.tuning.traceThreshold ≤ (s.queue.accept s.cfg.traceMode d).held.length)) .traceLevel) := by
  have loss (t : State) : (if s.queue.held.length < queueCapacity then t else t.raise .traceLoss) =
      t.raiseWhen (decide (256 ≤ s.queue.held.length)) .traceLoss := by
    rw [State.raiseWhen, queueCapacity]
    simp only [decide_eq_true_eq, ← not_lt, ite_not]
  unfold State.enqueue
  simp only [loss]
  rfl

theorem State.enqueue_queue : (s.enqueue d).queue = s.queue.accept s.cfg.traceMode d := by
  rw [s.enqueue_eq_raiseWhen]
  simp only [State.raiseWhen_queue]

theorem State.events_enqueue (p : Port) :
    ((s.enqueue d).port p).events =
      (((s.port p).events
        ||| if decide (256 ≤ s.queue.held.length) && keepsKind p .traceLoss then 0x0040 else 0)
        ||| if (s.queue.stores s.cfg.traceMode && d.flags.reject) && keepsKind p .rejectStored then 0x0080 else 0)
        ||| if (s.queue.stores s.cfg.traceMode &&
            decide (s.tuning.traceThreshold ≤ (s.enqueue d).queue.held.length)) && keepsKind p .traceLevel then 0x0020
          else 0 := by
  rw [s.enqueue_queue, s.enqueue_eq_raiseWhen, State.events_raiseWhen, State.events_raiseWhen, State.events_raiseWhen]
  cases p <;> rfl

end

end Sys2Proof.Machine

namespace Sys2Proof.Proofs

open Sys2Proof.Machine

/-- Settles O39: the queue is what `TraceQueue.accept` makes of it by room and mode, and the events of each port are
the three of the storage decision that it keeps. -/
theorem queueNumbersAndStoresRecords : Obligations.QueueNumbersAndStoresRecords := by
  intro d s
  simp only [← RecordDraft.hasSerial_iff, ← TraceQueue.stores_iff]
  have line := s.events_enqueue d .line
  have insp := s.events_enqueue d .inspection
  have frame := s.enqueue_eq d
  obtain ⟨created, serial, removals⟩ := s.queue.accept_numbers s.cfg.traceMode d
  simp only [s.enqueue_queue] at line insp ⊢
  refine ⟨created, ?_, fun room => ?_, fun full roll => ?_, fun full hold => ?_, removals, ?_, ?_, frame⟩
  · rw [serial]
    cases named : d.hasSerial <;> simp [TraceQueue.counted, nextSerialAfter, named]
  · rw [s.queue.accept_of_room _ d (not_le.mp room)]
    exact ⟨rfl, rfl, rfl, rfl, rfl⟩
  · rw [roll, s.queue.accept_roll d full]
    obtain ⟨lineCursor, inspCursor⟩ := TraceQueue.bringUp_cursors
      { s.queue.counted d with held := s.queue.held.tail ++ [s.queue.number d], evicted := s.queue.evicted + 1 }
    exact ⟨rfl, rfl, rfl, lineCursor, inspCursor⟩
  · rw [hold, s.queue.accept_hold d full]
    exact ⟨rfl, rfl, rfl, rfl, rfl⟩
  · simpa [State.port, keepsKind] using line
  · simpa [State.port, keepsKind] using insp

end Sys2Proof.Proofs
end

section
/-! ## The trace requests (R144, R148 to R150, R152) and the bytes of a trace record (R203) -/

namespace Sys2Proof.Machine

/-! ### The serial operand (R150, R152, R203) -/

/-- A byte appended below a word is the low digit of its value to the base 256. -/
theorem toNat_append_byte {w : Nat} (x : BitVec w) (b : Byte) : (x ++ b).toNat = b.toNat + 256 * x.toNat := by
  rw [BitVec.toNat_append, ← Nat.shiftLeft_add_eq_or_of_lt b.isLt, Nat.shiftLeft_eq]
  omega

theorem serialOperand_four (b0 b1 b2 b3 : Byte) : serialOperand [b0, b1, b2, b3] = b3 ++ b2 ++ b1 ++ b0 := by
  have value : fieldAt [b0, b1, b2, b3] 0 4 = (b3 ++ b2 ++ b1 ++ b0).toNat := by
    simp only [toNat_append_byte]
    rfl
  rw [serialOperand, value, BitVec.ofNat_toNat, BitVec.setWidth_eq]

/-- A serial is sent back in the bytes it was sent in. -/
theorem leBytes_serialOperand (b0 b1 b2 b3 : Byte) :
    leBytes 4 (serialOperand [b0, b1, b2, b3]).toNat = [b0, b1, b2, b3] := by
  have value : (serialOperand [b0, b1, b2, b3]).toNat = leValue [b0, b1, b2, b3] :=
    Nat.mod_eq_of_lt (fieldAt_lt [b0, b1, b2, b3] 0 4)
  rw [value]
  exact leBytes_leValue [b0, b1, b2, b3]

/-! ### What each request reads of the held list (R148, R150) -/

section

variable {q : TraceQueue}

theorem TraceQueue.nextFor_eq_none {p : Port}
    (behind : ∀ r ∈ q.held, atOrAfter q.seqCounter (q.cursor p) r.seq = false) : q.nextFor p = none :=
  List.find?_eq_none.mpr fun r hr => Bool.eq_false_iff.mp (behind r hr)

/-- The record TRACE_NEXT reads is the first one at or after the cursor (R148). -/
theorem TraceQueue.nextFor_eq_some {p : Port} {before after : List TraceRecord} {r : TraceRecord}
    (held : q.held = before ++ r :: after)
    (behind : ∀ x ∈ before, atOrAfter q.seqCounter (q.cursor p) x.seq = false)
    (next : atOrAfter q.seqCounter (q.cursor p) r.seq = true) : q.nextFor p = some r :=
  List.find?_eq_some_iff_append.mpr ⟨next, before, after, held, fun x hx => by rw [behind x hx]; rfl⟩

theorem TraceQueue.find_eq_none {serial : U32} (absent : ∀ r ∈ q.held, r.serial ≠ some serial) :
    q.find serial = none :=
  List.find?_eq_none.mpr fun r hr => by simpa using absent r hr

/-- The record TRACE_FIND reads is the first one that carries the serial (R150). -/
theorem TraceQueue.find_eq_some {serial : U32} {before after : List TraceRecord} {r : TraceRecord}
    (held : q.held = before ++ r :: after) (others : ∀ x ∈ before, x.serial ≠ some serial)
    (named : r.serial = some serial) : q.find serial = some r :=
  List.find?_eq_some_iff_append.mpr
    ⟨decide_eq_true named, before, after, held, fun x hx => by simpa using others x hx⟩

end

/-! ### What each request serves -/

section

variable {s : State}

theorem serveTraceNext_of_none {p : Port} (h : s.queue.nextFor p = none) :
    serveTraceNext p [] s = (bare .empty, s) := by
  rw [serveTraceNext, h]

theorem serveTraceNext_of_some {p : Port} {r : TraceRecord} (h : s.queue.nextFor p = some r) :
    serveTraceNext p [] s = (⟨.ok, recordBytes r⟩, { s with queue := s.queue.setCursor p (r.seq + 1) }) := by
  rw [serveTraceNext, h]

theorem serveTraceFind_of_none {ops : List Byte} (h : s.queue.find (serialOperand ops) = none) :
    serveTraceFind ops s = (bare .notFound, s) := by
  rw [serveTraceFind, h]

theorem serveTraceFind_of_some {ops : List Byte} {r : TraceRecord}
    (h : s.queue.find (serialOperand ops) = some r) : serveTraceFind ops s = (⟨.ok, recordBytes r⟩, s) := by
  rw [serveTraceFind, h]

/-- SERIAL_SET checks the mode, then the value, then that no record is held (R152). -/
theorem serveSerialSet_four (b0 b1 b2 b3 : Byte) :
    serveSerialSet [b0, b1, b2, b3] s =
      if s.mode ≠ .setup then (bare .wrongMode, s)
      else if (b3 ++ b2 ++ b1 ++ b0 : U32) = 0 then (bare .badValue, s)
      else if s.queue.held ≠ [] then (bare .inUse, s)
      else (⟨.ok, [b0, b1, b2, b3]⟩, { s with queue := { s.queue with nextSerial := b3 ++ b2 ++ b1 ++ b0 } }) := by
  rw [serveSerialSet, leBytes_serialOperand, serialOperand_four]

end

/-! ### The bytes of a trace record (R203, chapter 11) -/

/-- A flag's share of a flag byte. -/
theorem mul_flagCode (weight : Nat) (flag : Bool) : weight * flagCode flag = if flag then weight else 0 := by
  cases flag <;> simp [flagCode]

/-- A trace record's bytes field by field: an absent field is 0, each part of it in bytes of its own. -/
theorem recordBytes_eq (r : TraceRecord) :
    recordBytes r =
      leBytes 1 (flagCode r.serial.isSome + 2 * flagCode r.body.reason.isSome + 4 * flagCode r.body.metered.isSome +
        8 * flagCode r.body.close.isSome) ++
      leBytes 4 r.seq.toNat ++ leBytes 4 (r.serial.getD 0).toNat ++ leBytes 1 r.body.head.val ++
      leBytes 1 r.body.slot.val ++ leBytes 2 r.body.product.toNat ++ leBytes 2 r.body.vT ++
      leBytes 2 r.body.epoch.toNat ++ leBytes 1 r.body.outcome.code ++ leBytes 1 (recordFlagCode r.body.flags) ++
      leBytes 1 ((r.body.reason.map NotFilledReason.code).getD 0) ++
      (leBytes 4 ((r.body.metered.map Metered.total).getD 0) ++
        leBytes 4 ((r.body.metered.map Metered.vMeter).getD 0) ++
        leBytes 2 ((r.body.metered.map Metered.pClose).getD 0)) ++
      (leBytes 2 ((r.body.close.map CloseRecord.angle).getD 0) ++
        leBytes 2 ((r.body.close.map CloseRecord.duration).getD 0)) ++
      leBytes 4 r.body.revolution.toNat := by
  unfold recordBytes
  dsimp only
  congr! 12
  · cases r.serial <;> rfl
  · cases r.body.reason <;> rfl
  · cases r.body.metered <;> rfl
  · cases r.body.close <;> rfl

end Sys2Proof.Machine

namespace Sys2Proof.Proofs

open Sys2Proof.Machine

/-- Settles O41: each request answers what its block serves on the record its search finds, with the refusals in the
order of the block's checks; the record's bytes are compared part by part. -/
theorem traceRequestsReadAndClear : Obligations.TraceRequestsReadAndClear := by
  refine ⟨fun dt s => ⟨fun p hs => ⟨fun behind => ?_, fun before r after held behind next => ?_⟩, fun p hs => ?_,
    fun p b0 b1 b2 b3 hs => ⟨fun absent => ?_, fun before r after held others named => ?_⟩, fun hs => ?_,
    fun b0 b1 b2 b3 hs => ?_⟩, fun r => ?_, rfl⟩
  · exact s.next_complete_of_serve hs (by simp [Request.lengths])
      (serveTraceNext_of_none (TraceQueue.nextFor_eq_none behind))
  · exact s.next_complete_of_serve hs (by simp [Request.lengths])
      (serveTraceNext_of_some (TraceQueue.nextFor_eq_some held behind next))
  · exact s.next_complete_of_serve hs (by simp [Request.lengths]) rfl
  · rw [← serialOperand_four] at absent
    exact s.next_complete_of_serve hs (by simp [Request.lengths])
      (serveTraceFind_of_none (TraceQueue.find_eq_none absent))
  · rw [← serialOperand_four] at others named
    exact s.next_complete_of_serve hs (by simp [Request.lengths])
      (serveTraceFind_of_some (TraceQueue.find_eq_some held others named))
  · exact s.next_complete_of_serve hs (by simp [Request.lengths]) rfl
  · have served := serveSerialSet_four (s := s.elapse dt) b0 b1 b2 b3
    have answered {answer : Response} {t : State}
        (h : serveSerialSet [b0, b1, b2, b3] (s.elapse dt) = (answer, t)) :
        exec (.serialSet dt) s = .next (t.finish .line answer) :=
      s.next_complete_of_serve hs (by simp [Request.lengths]) h
    refine ⟨fun mode => answered (served.trans (if_pos mode)), fun mode zero => ?_, fun mode nonzero holding => ?_,
      fun mode nonzero empty => ?_⟩
    · exact answered (served.trans ((if_neg (not_not.mpr mode)).trans (if_pos zero)))
    · exact answered (served.trans ((if_neg (not_not.mpr mode)).trans ((if_neg nonzero).trans (if_pos holding))))
    · exact answered (served.trans ((if_neg (not_not.mpr mode)).trans
        ((if_neg nonzero).trans (if_neg (not_not.mpr empty)))))
  · have present : flagCode r.serial.isSome = 1 * flagCode r.serial.isSome := (Nat.one_mul _).symm
    have suspect : flagCode r.body.flags.suspect = 1 * flagCode r.body.flags.suspect := (Nat.one_mul _).symm
    rw [recordBytes_eq, recordFlagCode, present, suspect]
    simp only [mul_flagCode, List.append_assoc]
    rfl

end Sys2Proof.Proofs
end

section
/-! ## Matched level reports (R143, R158 to R167) -/

namespace Sys2Proof.Machine

/-! ### The operands of LEVEL_REPORT (R154, R203) -/

/-- The serial is read from the first four bytes, whatever follows. -/
theorem serialOperand_report (b0 b1 b2 b3 d0 d1 : Byte) :
    serialOperand [b0, b1, b2, b3, d0, d1] = b3 ++ b2 ++ b1 ++ b0 :=
  serialOperand_four b0 b1 b2 b3

/-- The deviation is the signed value of the last two bytes. -/
theorem signedAt_report (b0 b1 b2 b3 d0 d1 : Byte) : signedAt [b0, b1, b2, b3, d0, d1] 4 = (d1 ++ d0).toInt := by
  have value : fieldAt [b0, b1, b2, b3, d0, d1] 4 2 = (d1 ++ d0).toNat := by
    rw [toNat_append_byte]
    rfl
  rw [signedAt, value, BitVec.ofNat_toNat, BitVec.setWidth_eq]

/-! ### The classification (R159 to R162) -/

theorem measuredFill_iff (o : FillOutcome) : measuredFill o = true ↔ o = .ok ∨ o = .outOfTol := by
  rw [measuredFill, Bool.or_eq_true, decide_eq_true_eq, decide_eq_true_eq]

/-- A record that teaches its head nothing: no measured fill, SUSPECT, RESUMED, or its recipe slot empty (R159). -/
def RecordDraft.Unlearnable (d : RecordDraft) (slot : Option Recipe) : Prop :=
  (d.outcome ≠ .ok ∧ d.outcome ≠ .outOfTol) ∨ d.flags.suspect = true ∨ d.flags.resumed = true ∨ slot = none

/-- The model asks for the flaws of the record first and for the empty slot after them. -/
theorem RecordDraft.unlearnable_iff (d : RecordDraft) (slot : Option Recipe) :
    d.Unlearnable slot ↔
      (measuredFill d.outcome = false ∨ d.flags.suspect = true ∨ d.flags.resumed = true) ∨ slot = none := by
  rw [RecordDraft.Unlearnable, ← not_or, ← measuredFill_iff, Bool.not_eq_true, or_assoc, or_assoc]

section

variable {d : RecordDraft} {deviation : Int} {e : HeadRecord} {slot : Option Recipe}

theorem classifyReport_of_noMeasurement (h : deviation = -32768) :
    classifyReport d deviation e slot = .unmeasured :=
  if_pos h

theorem classifyReport_of_unlearnable (measured : deviation ≠ -32768) (h : d.Unlearnable slot) :
    classifyReport d deviation e slot = .noLearn := by
  rw [classifyReport.eq_def, if_neg (show ¬ deviation = noMeasurement from measured)]
  rcases (d.unlearnable_iff slot).mp h with flawed | rfl
  · exact if_pos flawed
  · exact ite_self _

/-- A measured report on a learnable record is judged against the head's epoch and freeze and the recipe's two
limits, in that order (R159). -/
theorem classifyReport_of_learnable {r : Recipe} (measured : deviation ≠ -32768) (h : ¬ d.Unlearnable (some r)) :
    classifyReport d deviation e (some r) =
      if d.epoch ≠ e.epoch then .stale
      else if e.frozen then .frozen
      else if deviation.natAbs ≤ r.deadBand then .deadBand
      else if r.grossLimit < deviation.natAbs then .gross
      else .applied := by
  rw [RecordDraft.unlearnable_iff, not_or] at h
  obtain ⟨clean, -⟩ := h
  exact (if_neg measured).trans (if_neg clean)

/-- A learnable record is never answered UNMEASURED or NO_LEARN once there is a measurement. -/
theorem classifyReport_ne_of_learnable (measured : deviation ≠ -32768) (h : ¬ d.Unlearnable slot) :
    classifyReport d deviation e slot ≠ .unmeasured ∧ classifyReport d deviation e slot ≠ .noLearn := by
  cases slot with
  | none => exact absurd ((d.unlearnable_iff none).mpr (.inr rfl)) h
  | some r =>
    rw [classifyReport_of_learnable measured h]
    split_ifs <;> decide

theorem classifyReport_eq_unmeasured_iff :
    classifyReport d deviation e slot = .unmeasured ↔ deviation = -32768 := by
  refine ⟨fun hc => ?_, classifyReport_of_noMeasurement⟩
  by_contra measured
  by_cases h : d.Unlearnable slot
  · simp [classifyReport_of_unlearnable measured h] at hc
  · exact (classifyReport_ne_of_learnable measured h).1 hc

theorem classifyReport_eq_noLearn_iff :
    classifyReport d deviation e slot = .noLearn ↔ deviation ≠ -32768 ∧ d.Unlearnable slot := by
  refine ⟨fun hc => ?_, fun ⟨measured, h⟩ => classifyReport_of_unlearnable measured h⟩
  have measured : deviation ≠ -32768 := fun h => by
    simp [classifyReport_of_noMeasurement h] at hc
  exact ⟨measured, by_contra fun h => (classifyReport_ne_of_learnable measured h).2 hc⟩

/-- A learnable record's classification is the first of the five conditions on the head and the recipe. -/
theorem classifyReport_iff_of_learnable {r : Recipe} (measured : deviation ≠ -32768)
    (h : ¬ d.Unlearnable (some r)) :
    (classifyReport d deviation e (some r) = .stale ↔ d.epoch ≠ e.epoch) ∧
    (classifyReport d deviation e (some r) = .frozen ↔ d.epoch = e.epoch ∧ e.frozen = true) ∧
    (classifyReport d deviation e (some r) = .deadBand ↔
      d.epoch = e.epoch ∧ e.frozen = false ∧ deviation.natAbs ≤ r.deadBand) ∧
    (classifyReport d deviation e (some r) = .gross ↔
      d.epoch = e.epoch ∧ e.frozen = false ∧ r.deadBand < deviation.natAbs ∧ r.grossLimit < deviation.natAbs) ∧
    (classifyReport d deviation e (some r) = .applied ↔
      d.epoch = e.epoch ∧ e.frozen = false ∧ r.deadBand < deviation.natAbs ∧ deviation.natAbs ≤ r.grossLimit) := by
  rw [classifyReport_of_learnable measured h]
  by_cases epoch : d.epoch = e.epoch
  · cases frozen : e.frozen with
    | true => simp [epoch]
    | false =>
      rcases Nat.lt_or_ge r.deadBand deviation.natAbs with outside | inside
      · rcases Nat.lt_or_ge r.grossLimit deviation.natAbs with gross | within
        · simp [epoch, outside, outside.not_ge, gross]
        · simp [epoch, outside, outside.not_ge, within, within.not_gt]
      · simp [epoch, inside, inside.not_gt]
  · simp [epoch]

end

/-! ### The record retired (R143, R147) -/

/-- The first record that carries the serial leaves the list, counted as matched, and the cursors are brought up. -/
theorem TraceQueue.retire_eq {q : TraceQueue} {serial : U32} {before after : List TraceRecord} {r : TraceRecord}
    (held : q.held = before ++ r :: after) (others : ∀ x ∈ before, x.serial ≠ some serial)
    (named : r.serial = some serial) :
    q.retire serial = { q with
      held := before ++ after
      matched := q.matched + 1
      lineCursor := broughtUp q.created (before ++ after) q.lineCursor
      inspCursor := broughtUp q.created (before ++ after) q.inspCursor } := by
  have left : (q.held.eraseP fun x => decide (x.serial = some serial)) = before ++ after := by
    rw [held, List.eraseP_append_right _ fun x hx => by simpa using others x hx,
      List.eraseP_cons_of_pos (by simpa using named)]
  obtain ⟨lineCursor, inspCursor⟩ := TraceQueue.bringUp_cursors
    { q with held := before ++ after, matched := q.matched + 1 }
  rw [TraceQueue.retire, left, TraceQueue.bringUp_eq, lineCursor, inspCursor]

/-! ### What a report teaches its head (R163 to R166) -/

theorem HeadRecord.reported_eq (c : Classification) (d : RecordDraft) (deviation : Int) (gain trimLimit : Nat)
    (e : HeadRecord) :
    let up (n : U16) : U16 := if n = 65535 then 65535 else n + 1
    e.reported c d deviation gain trimLimit = { e with
      trim :=
        if c = .applied then
          max (-(trimLimit : Int)) (min trimLimit (e.trim + roundHalfAway (deviation * 10000) (d.vT * 2 ^ gain)))
        else e.trim
      epoch := if c = .applied then e.epoch + 1 else e.epoch
      lastDeviation :=
        if deviation ≠ -32768 ∧ (d.outcome = .ok ∨ d.outcome = .outOfTol) then some deviation else e.lastDeviation
      stats :=
        if c = .applied then { e.stats with reportsApplied := up e.stats.reportsApplied }
        else { e.stats with reportsNotApplied := up e.stats.reportsNotApplied } } := by
  simp only [HeadRecord.reported, clampTrim_eq, trimStep, noMeasurement, measuredFill_iff, satInc_eq]

/-! ### What the block serves (R155, R158, R167) -/

variable {s : State}

/-- The trim gain of the recipe a record names; an empty slot has none, and no step is then taken. -/
def trimGainOf (slot : Option Recipe) : Nat :=
  match slot with
  | some r => r.trimGain
  | none => 0

/-- The head's record after a report on `r`, classified against the slot the record names. -/
def State.taught (s : State) (r : TraceRecord) (deviation : Int) : HeadRecord :=
  (s.head r.body.head).entry.reported
    (classifyReport r.body deviation (s.head r.body.head).entry s.recipes[r.body.slot.val]) r.body deviation
    (trimGainOf s.recipes[r.body.slot.val]) s.tuning.trimLimit

/-- A report on a held serial retires its record, teaches the record's head, and answers the classification, the head
and the trim. -/
theorem serveLevelReport_of_find {ops : List Byte} {r : TraceRecord} (nonzero : serialOperand ops ≠ 0)
    (found : s.queue.find (serialOperand ops) = some r) :
    serveLevelReport ops s =
      (⟨.ok, [BitVec.ofNat 8
          (classifyReport r.body (signedAt ops 4) (s.head r.body.head).entry s.recipes[r.body.slot.val]).code,
          BitVec.ofNat 8 r.body.head.val] ++ leSigned (s.taught r (signedAt ops 4)).trim⟩,
        ({ s with queue := s.queue.retire (serialOperand ops) }).updEntry r.body.head
          fun _ => s.taught r (signedAt ops 4)) := by
  rw [serveLevelReport, if_neg nonzero, State.report, found]
  rfl

end Sys2Proof.Machine

namespace Sys2Proof.Proofs

open Sys2Proof.Machine

/-- Settles O42: the completion serves the block on the record its search finds, whose retirement and whose lesson are
`TraceQueue.retire_eq` and `HeadRecord.reported_eq`; a learnable record's classification is read off the order of its
five conditions. -/
theorem matchedReportsRetireAndTeach : Obligations.MatchedReportsRetireAndTeach := by
  refine ⟨?_, fun d deviation e slot => ⟨classifyReport_eq_unmeasured_iff, classifyReport_eq_noLearn_iff,
      fun r hr learnable measured => ?_⟩⟩
  · intro dt s b0 b1 b2 b3 d0 d1 before after rec serial deviation slot e c step trim up hs nonzero held others named
    have operand := serialOperand_report b0 b1 b2 b3 d0 d1
    have found : (s.elapse dt).queue.find (serialOperand [b0, b1, b2, b3, d0, d1]) = some rec := by
      rw [operand]
      exact TraceQueue.find_eq_some held others named
    have served := serveLevelReport_of_find (by rwa [operand]) found
    rw [operand, signedAt_report] at served
    have retired := TraceQueue.retire_eq held others named
    have taught : (s.elapse dt).taught rec deviation = _ :=
      e.reported_eq c rec.body deviation (trimGainOf slot) s.tuning.trimLimit
    refine ⟨_, s.next_complete_of_serve hs (by simp [Request.lengths]) served, congrArg TraceQueue.held retired,
      congrArg TraceQueue.matched retired, retired, ?_, fun j hj => State.head_updEntry_other _ _ _ _ hj.symm, ?_, rfl⟩
    · exact (State.head_updEntry_same _ _ _).trans
        (congrArg (fun x => { s.head rec.body.head with entry := x }) taught)
    · have answered : ((s.elapse dt).taught rec deviation).trim = trim := congrArg HeadRecord.trim taught
      rw [← answered]
      rfl
  · subst hr
    exact classifyReport_iff_of_learnable measured learnable

end Sys2Proof.Proofs
end

section
/-! ## The requests that report state (R128, R151, R181, R185, R186, R203, R204) -/

namespace Sys2Proof.Machine

/-- A request without an operand answers what its block serves (R195). -/
theorem State.next_complete_of_no_operand {s : State} {dt : Nat} {p : Port} {r : Request}
    {serve : List Byte → State → Response × State} {answer : Response} {t : State} (hs : s.holds p r [])
    (hl : r.lengths = [0]) (served : serve [] (s.elapse dt) = (answer, t)) :
    (Host.Outcome.next ((s.elapse dt).complete p r r.lengths serve) : Result) = .next (t.finish p answer) :=
  s.next_complete_of_serve hs (by simp [hl]) served

/-! ### The bytes of a field (R203) -/

@[simp] theorem length_leBytes (width n : Nat) : (leBytes width n).length = width := by
  induction width generalizing n with
  | zero => rfl
  | succ width ih => rw [leBytes, List.length_cons, ih]

/-- Byte `i` of a field is its digit `i` to the base 256: the least significant one is sent first. -/
theorem getElem?_leBytes {width i : Nat} (h : i < width) (n : Nat) :
    (leBytes width n)[i]? = some (BitVec.ofNat 8 (n / 256 ^ i)) := by
  induction width generalizing n i with
  | zero => exact absurd h (Nat.not_lt_zero i)
  | succ width ih =>
    cases i with
    | zero => rw [Nat.pow_zero, Nat.div_one]; rfl
    | succ i =>
      have digit : n / 256 / 256 ^ i = n / 256 ^ (i + 1) := by rw [Nat.div_div_eq_div_mul, Nat.pow_succ']
      rw [leBytes, List.getElem?_cons_succ, ih (Nat.lt_of_succ_lt_succ h), digit]

theorem leBytes_flagCode (flag : Bool) : leBytes 1 (flagCode flag) = [if flag then 1 else 0] := by
  cases flag <;> rfl

theorem leBytes_traceModeCode (mode : TraceMode) : leBytes 1 mode.code = [if mode = .hold then 1 else 0] := by
  cases mode <;> rfl

/-! ### The blocks (chapter 11) -/

variable (s : State)

theorem statusBytes_eq :
    statusBytes s =
      [BitVec.ofNat 8 s.mode.code, BitVec.ofNat 8 s.tracker.ref.code, BitVec.ofNat 8 s.tracker.motion.code] ++
        leBytes 4 s.tracker.revolutions.toNat ++ leBytes 4 s.tracker.speed ++ [if s.estop then 1 else 0] := by
  rw [statusBytes, leBytes_flagCode]
  rfl

/-- A stack entry's bytes: bit 7 marks a count present, and an absent count is sent as 0 (R203). -/
theorem entryBytes_eq (e : StackEntry) :
    entryBytes e =
      BitVec.ofNat 8 (e.slot.val + if e.count = none then 0 else 128) :: leBytes 2 (e.count.getD 0) := by
  unfold entryBytes
  cases e.count with
  | none => rfl
  | some n => rfl

theorem stackBytes_eq :
    stackBytes s =
      [BitVec.ofNat 8 s.cfg.depth, BitVec.ofNat 8 s.stack.entries.length] ++ leBytes 2 s.stack.spills.toNat ++
      s.stack.entries.flatMap fun e =>
        BitVec.ofNat 8 (e.slot.val + if e.count = none then 0 else 128) :: leBytes 2 (e.count.getD 0) := by
  rw [stackBytes, funext entryBytes_eq]
  rfl

/-- An absent serial is sent as 0 (R203). -/
theorem leBytes_serial (x : Option U32) :
    leBytes 4 (match x with | some x => x.toNat | none => 0) = leBytes 4 (x.getD 0).toNat := by
  cases x <;> rfl

theorem leBytes_isSome_head? {α : Type} [DecidableEq α] (l : List α) :
    leBytes 1 (flagCode l.head?.isSome) = [if l = [] then 0 else 1] := by
  cases l with
  | nil => rfl
  | cons x l => rfl

theorem traceStatusBytes_eq :
    let q := s.queue
    let serials := q.held.filterMap TraceRecord.serial
    traceStatusBytes s =
      leBytes 2 q.held.length ++ [if serials = [] then 0 else 1] ++ leBytes 4 (serials.head?.getD 0).toNat ++
      leBytes 4 (serials.getLast?.getD 0).toNat ++ leBytes 4 q.nextSerial.toNat ++
      [if s.cfg.traceMode = .hold then 1 else 0] ++ leBytes 2 s.tuning.traceThreshold ++ leBytes 4 q.created.toNat ++
      leBytes 4 q.matched.toNat ++ leBytes 4 q.expired.toNat ++ leBytes 4 q.evicted.toNat ++
      leBytes 4 q.cleared.toNat ++ leBytes 4 q.lost.toNat := by
  intro q serials
  have oldest := leBytes_serial serials.head?
  have newest := leBytes_serial serials.getLast?
  rw [← leBytes_isSome_head? serials, ← leBytes_traceModeCode, ← oldest, ← newest]
  rfl

end Sys2Proof.Machine

namespace Sys2Proof.Proofs

open Sys2Proof.Machine

/-- Settles O4: each of the seven serves its block on the state as it is, and the blocks are written out field by
field. -/
theorem readRequestsReportAndChangeNothing : Obligations.ReadRequestsReportAndChangeNothing := by
  refine ⟨fun dt s => ⟨fun p hs => ?nop, fun p hs => ?identify, fun p hs => ?status, fun hs => ?config,
    fun hs => ?tuning, fun hs => ?stack, fun p hs => ?trace⟩, stackBytes_eq, traceStatusBytes_eq, ⟨rfl, rfl, rfl⟩,
    fun width n => ⟨length_leBytes width n, fun i hi => getElem?_leBytes hi n⟩⟩
  case status =>
    rw [← statusBytes_eq]
    exact State.next_complete_of_no_operand hs rfl rfl
  all_goals exact State.next_complete_of_no_operand hs rfl rfl

end Sys2Proof.Proofs
end

section
/-! ## The five mode requests (R171 to R176) -/

namespace Sys2Proof.Machine

theorem FillState.drains_iff (st : FillState) :
    st.drains = true ↔ st ∈ [FillState.armed, .pressurizing, .pressurized, .fillFast, .fillSlow, .held, .settle,
      .snift] := by
  cases st <;> decide

variable (s : State)

theorem State.ready_iff : s.ready = true ↔ s.tracker.ref = .tracking ∧ s.estop = false := by
  rw [State.ready, Bool.and_eq_true, decide_eq_true_eq, Bool.not_eq_true']

theorem modeAnswer_setMode (m : Mode) :
    modeAnswer (s.setMode m) = (⟨.ok, [BitVec.ofNat 8 m.code]⟩, s.setMode m) := by
  rw [modeAnswer, State.setMode_mode]
  rfl

/-! ### MODE_PRODUCE and MODE_RESUME (R172, R176) -/

/-- The change to PRODUCTION that both requests ask for, each from its own mode: the mode is tested before
readiness. -/
def State.produceFrom (m : Mode) (s : State) : Response × State :=
  if s.mode ≠ m then (bare .wrongMode, s)
  else if s.ready then modeAnswer (s.setMode .production)
  else (bare .notReady, s)

theorem serveModeProduce_eq (ops : List Byte) : serveModeProduce ops s = s.produceFrom .setup := rfl

theorem serveModeResume_eq (ops : List Byte) : serveModeResume ops s = s.produceFrom .halt := rfl

section

variable {s : State} {m : Mode}

theorem State.produceFrom_of_ne (hm : s.mode ≠ m) : s.produceFrom m = (bare .wrongMode, s) := if_pos hm

theorem State.produceFrom_of_not_ready (hm : s.mode = m) (hr : ¬ (s.tracker.ref = .tracking ∧ s.estop = false)) :
    s.produceFrom m = (bare .notReady, s) := by
  rw [State.produceFrom, if_neg (not_not.mpr hm), if_neg (mt s.ready_iff.mp hr)]

theorem State.produceFrom_of_ready (hm : s.mode = m) (hr : s.tracker.ref = .tracking ∧ s.estop = false) :
    s.produceFrom m = (⟨.ok, [1]⟩, s.setMode .production) := by
  rw [State.produceFrom, if_neg (not_not.mpr hm), if_pos (s.ready_iff.mpr hr), modeAnswer_setMode]
  rfl

/-- The rows of MODE_PRODUCE and MODE_RESUME in R171's table, for a request that asks for PRODUCTION from `m`. -/
theorem State.next_complete_of_produceFrom {dt : Nat} {r : Request} {serve : List Byte → State → Response × State}
    (hs : s.holds .line r []) (hl : r.lengths = [0])
    (served : serve [] (s.elapse dt) = (s.elapse dt).produceFrom m) :
    let result : Result := .next ((s.elapse dt).complete .line r r.lengths serve)
    let ready := s.tracker.ref = .tracking ∧ s.estop = false
    (s.mode ≠ m → result = .next ((s.elapse dt).finish .line (bare .wrongMode))) ∧
    (s.mode = m → ¬ ready → result = .next ((s.elapse dt).finish .line (bare .notReady))) ∧
    (s.mode = m → ready → result = .next (((s.elapse dt).setMode .production).finish .line ⟨.ok, [1]⟩)) :=
  ⟨fun other => next_complete_of_no_operand hs hl (served.trans (produceFrom_of_ne other)),
    fun here unready => next_complete_of_no_operand hs hl (served.trans (produceFrom_of_not_ready here unready)),
    fun here isReady => next_complete_of_no_operand hs hl (served.trans (produceFrom_of_ready here isReady))⟩

/-! ### MODE_DRAIN (R173, R174) -/

theorem State.drainCheck_of_drains {h : HeadId} (hd : (s.head h).seq.state.drains = true) : s.drainCheck = s := by
  rcases s.drainCheck_cases with same | ⟨-, drained, -⟩
  · exact same
  · exact absurd hd (Bool.eq_false_iff.mp (drained h))

theorem State.drainCheck_of_drained (hm : s.mode = .drain) (hd : ∀ h, (s.head h).seq.state.drains = false) :
    s.drainCheck = s.setMode .setup :=
  if_pos ⟨hm, (s.anyHead_eq_false_iff _).mpr hd⟩

theorem serveModeDrain_of_ne (ops : List Byte) (hm : s.mode ≠ .production) :
    serveModeDrain ops s = (bare .wrongMode, s) :=
  if_pos hm

/-- With a head still to drain the mode becomes DRAIN. -/
theorem serveModeDrain_of_drains (ops : List Byte) (hm : s.mode = .production) {h : HeadId}
    (hd : (s.head h).seq.state.drains = true) :
    serveModeDrain ops s = (⟨.ok, [2]⟩, s.setMode .drain) := by
  have waits : (s.setMode .drain).drainCheck = s.setMode .drain :=
    State.drainCheck_of_drains (h := h) (by rwa [State.head_setMode])
  rw [serveModeDrain, if_neg (not_not.mpr hm), waits, modeAnswer_setMode]
  rfl

/-- With no head left to drain the DRAIN completes at the request, and the mode is SETUP. -/
theorem serveModeDrain_of_drained (ops : List Byte) (hm : s.mode = .production)
    (hd : ∀ h, (s.head h).seq.state.drains = false) :
    serveModeDrain ops s = (⟨.ok, [0]⟩, (s.setMode .drain).setMode .setup) := by
  have done : (s.setMode .drain).drainCheck = (s.setMode .drain).setMode .setup :=
    State.drainCheck_of_drained (s.setMode_mode .drain) fun h => by rw [State.head_setMode, hd h]
  rw [serveModeDrain, if_neg (not_not.mpr hm), done, modeAnswer_setMode]
  rfl

/-! ### MODE_HALT and MODE_SETUP (R175, R176) -/

/-- In HALT the request changes nothing and answers the mode. -/
theorem serveModeHalt_of_halt (ops : List Byte) (hm : s.mode = .halt) : serveModeHalt ops s = (⟨.ok, [3]⟩, s) := by
  rw [serveModeHalt, s.enterHalt_of_halt hm, modeAnswer, hm]
  rfl

theorem serveModeHalt_of_ne (ops : List Byte) (hm : s.mode ≠ .halt) :
    serveModeHalt ops s = (⟨.ok, [3]⟩, (s.mapBelow (Head.haltEntry s.now s.cfg)).setMode .halt) := by
  rw [serveModeHalt, State.enterHalt, if_neg hm, modeAnswer_setMode]
  rfl

theorem serveModeSetup_of_ne (ops : List Byte) (hm : s.mode ≠ .halt) :
    serveModeSetup ops s = (bare .wrongMode, s) :=
  if_pos hm

theorem serveModeSetup_of_halt (ops : List Byte) (hm : s.mode = .halt) :
    serveModeSetup ops s = (⟨.ok, [0]⟩, s.setMode .setup) := by
  rw [serveModeSetup, if_neg (not_not.mpr hm), modeAnswer_setMode]
  rfl

end

end Sys2Proof.Machine

namespace Sys2Proof.Proofs

open Sys2Proof.Machine

/-- Settles O44: each request answers what it serves in each row of R171's table; MODE_PRODUCE and MODE_RESUME are one
change to PRODUCTION from two modes. -/
theorem modeRequestsFollowTheTable : Obligations.ModeRequestsFollowTheTable := by
  intro dt s refuse moved ready draining
  refine ⟨fun hs => ?_, fun hs => ⟨fun other => ?_, fun here left => ?_, fun here drained => ?_⟩,
    fun hs => ⟨fun halted => ?_, fun other => ?_⟩, fun hs => ?_, fun hs => ⟨fun other => ?_, fun here => ?_⟩⟩
  · exact State.next_complete_of_produceFrom hs rfl (serveModeProduce_eq _ [])
  · exact State.next_complete_of_no_operand hs rfl (serveModeDrain_of_ne [] other)
  · obtain ⟨h, drains⟩ := left
    exact State.next_complete_of_no_operand hs rfl
      (serveModeDrain_of_drains [] here ((FillState.drains_iff _).mpr drains))
  · have done (h : HeadId) : (s.head h).seq.state.drains = false :=
      Bool.eq_false_iff.mpr fun drains => drained ⟨h, (FillState.drains_iff _).mp drains⟩
    exact State.next_complete_of_no_operand hs rfl (serveModeDrain_of_drained [] here done)
  · exact State.next_complete_of_no_operand hs rfl (serveModeHalt_of_halt [] halted)
  · exact State.next_complete_of_no_operand hs rfl (serveModeHalt_of_ne [] other)
  · exact State.next_complete_of_produceFrom hs rfl (serveModeResume_eq _ [])
  · exact State.next_complete_of_no_operand hs rfl (serveModeSetup_of_ne [] other)
  · exact State.next_complete_of_no_operand hs rfl (serveModeSetup_of_halt [] here)

end Sys2Proof.Proofs
end

section
/-! ## The end of a frame (R188, R190 to R193, R196) -/

namespace Sys2Proof.Machine

/-! ### The clocks of a frame and the class of its bytes (R188) -/

/-- The clocks of whole bytes and a group cut off shift in those bytes. -/
theorem shiftedIn_bytes (bytes : List Byte) {cut : List Bool} (hc : cut.length < 8) :
    shiftedIn (bytes.flatMap (fun b => (List.range 8).map b.getMsbD) ++ cut) = bytes := by
  induction bytes with
  | nil => exact shiftBits_cut cut 0 0 hc
  | cons b bytes ih =>
    rw [List.flatMap_cons, List.append_assoc, shiftedIn, shiftBits_byte]
    exact congrArg (b :: ·) ih

/-- One byte, a length above 48, or fewer bytes than the length and the check byte need: a malformed frame. -/
theorem classify_malformed {bytes : List Byte}
    (h : bytes.length = 1 ∨ ∃ code len rest, bytes = code :: len :: rest ∧
      (48 < len.toNat ∨ rest.length < len.toNat + 1)) :
    classify bytes = .malformed := by
  rcases h with one | ⟨code, len, rest, rfl, long | short⟩
  · obtain ⟨b, rfl⟩ := List.length_eq_one_iff.mp one
    rfl
  · exact if_pos long
  · have missing : rest[len.toNat]? = none := List.getElem?_eq_none (Nat.lt_succ_iff.mp short)
    simp only [classify, missing, ite_self]

section

variable {len : Byte} {operands : List Byte}

/-- The operands and the check byte stand where the length says, and bytes after them are ignored. -/
theorem classify_complete (code check : Byte) (extra : List Byte) (fits : len.toNat ≤ 48)
    (hl : operands.length = len.toNat) :
    classify (code :: len :: (operands ++ check :: extra)) = .complete code operands check := by
  have found : (operands ++ check :: extra)[len.toNat]? = some check := by
    rw [← hl, List.getElem?_append_right le_rfl, Nat.sub_self, List.getElem?_cons_zero]
  have taken : (operands ++ check :: extra).take len.toNat = operands := by rw [← hl, List.take_left]
  simp only [classify, found, taken, if_neg (Nat.not_lt.mpr fits)]

/-- A check byte is good when it is that of the code, the length and the operands (R191). -/
theorem checkGood_iff (code check : Byte) (hl : operands.length = len.toNat) :
    checkGood code operands check = true ↔ check = checkByte (code :: len :: operands) := by
  rw [checkGood, decide_eq_true_eq, hl, BitVec.ofNat_toNat, BitVec.setWidth_eq, eq_comm]

end

/-! ### The port after the delivery decision (R190) -/

/-- A port whose open frame `out` closes after `count` bytes. -/
def PortState.closed (out : FrameOut) (count : Nat) (x : PortState) : PortState :=
  { x.deliver out count with frame := none }

theorem responseBytes_length (r : Response) (flag : Bool) : (responseBytes r flag).length = r.data.length + 3 :=
  List.length_append

/-- A response shifted out whole leaves the buffer and clears the flag it showed; one cut off stays. -/
theorem PortState.closed_response (r : Response) (flag : Bool) (count : Nat) (x : PortState) :
    x.closed (.response r flag) count =
      if r.data.length + 3 ≤ count then
        { x with frame := none, buffer := none, collision := if flag then false else x.collision }
      else { x with frame := none } := by
  rw [PortState.closed, PortState.deliver, responseBytes_length]
  split <;> rfl

theorem PortState.free_iff (y : PortState) : y.free = true ↔ y.slot = none ∧ y.buffer = none := by
  rw [PortState.free, Bool.and_eq_true, Option.isNone_iff_eq_none, Option.isNone_iff_eq_none]

theorem PortState.free_eq_false {y : PortState} (h : ¬ (y.slot = none ∧ y.buffer = none)) : y.free = false :=
  Bool.eq_false_iff.mpr (mt y.free_iff.mp h)

/-! ### What becomes of the request (R192, R193) -/

section

variable (s : State) (p : Port)

theorem State.updPort_eq_const (f : PortState → PortState) : s.updPort p f = s.updPort p fun _ => f (s.port p) := by
  cases p <;> rfl

theorem State.updPort_updPort_const (y : PortState) (f : PortState → PortState) :
    (s.updPort p fun _ => y).updPort p f = s.updPort p fun _ => f y := by
  cases p <;> rfl

/-- FRAME_END with a frame open delivers, then takes the request. -/
theorem exec_frameEnd_of_open (dt : Nat) (bits : List Bool) {out : FrameOut} (hf : (s.port p).frame = some out) :
    exec (.frameEnd dt p bits) s = .next
      (((s.elapse dt).updPort p fun _ => (s.port p).closed out (shiftedIn bits).length).takeFrame p
        (shiftedIn bits)) := by
  have still : (s.elapse dt).port p = s.port p := by cases p <;> rfl
  change Host.Outcome.next ((s.elapse dt).closeFrame p (shiftedIn bits)) = _
  rw [State.closeFrame, still, hf]
  simp only [State.updPort_eq_const (s.elapse dt), still]
  rfl

variable {bytes : List Byte} (y : PortState)

theorem State.takeFrame_nil : s.takeFrame p [] = s := rfl

theorem State.takeFrame_of_malformed (h : classify bytes = .malformed) :
    (s.updPort p fun _ => y).takeFrame p bytes =
      (s.updPort p fun _ => y.frameError y.free).raiseOn p .portError := by
  simp only [State.takeFrame, h, State.port_updPort_same, State.updPort_updPort_const]

variable {code check : Byte} {operands : List Byte} (h : classify bytes = .complete code operands check)
include h

theorem State.takeFrame_of_check_wrong (wrong : checkGood code operands check = false) :
    (s.updPort p fun _ => y).takeFrame p bytes =
      (s.updPort p fun _ => y.checkError y.free).raiseOn p .portError := by
  simp only [State.takeFrame, h, wrong, if_true, State.port_updPort_same, State.updPort_updPort_const]

theorem State.takeFrame_of_not_free (good : checkGood code operands check = true) (busy : y.free = false) :
    (s.updPort p fun _ => y).takeFrame p bytes = (s.updPort p fun _ => y.collide).raiseOn p .portError := by
  simp only [State.takeFrame, h, good, busy, if_false, Bool.true_eq_false, Bool.false_eq_true,
    State.port_updPort_same, State.updPort_updPort_const]

theorem State.takeFrame_of_free (good : checkGood code operands check = true) (free : y.free = true) :
    (s.updPort p fun _ => y).takeFrame p bytes = s.updPort p fun _ => y.acceptRequest p code operands := by
  simp only [State.takeFrame, h, good, free, if_false, if_true, Bool.true_eq_false,
    State.port_updPort_same, State.updPort_updPort_const]

end

section

variable (y : PortState)

theorem PortState.frameError_eq (free : Bool) :
    y.frameError free = { y with
      frameErrors := if y.frameErrors = 65535 then 65535 else y.frameErrors + 1
      buffer := if free then some ⟨.badFrame, []⟩ else y.buffer } := by
  rw [PortState.frameError, satInc_eq]
  rfl

theorem PortState.checkError_eq (free : Bool) :
    y.checkError free = { y with
      checkErrors := if y.checkErrors = 65535 then 65535 else y.checkErrors + 1
      buffer := if free then some ⟨.badCheck, []⟩ else y.buffer } := by
  rw [PortState.checkError, satInc_eq]
  rfl

theorem PortState.collide_eq :
    y.collide = { y with
      collision := true, collisions := if y.collisions = 65535 then 65535 else y.collisions + 1 } := by
  rw [PortState.collide, satInc_eq]

variable (p : Port) {code : Byte} {r : Request} (operands : List Byte)

theorem PortState.acceptRequest_of_unknown (unknown : requestOf code = none) :
    y.acceptRequest p code operands = { y with buffer := some ⟨.unknownRequest, []⟩ } := by
  rw [PortState.acceptRequest, unknown]
  rfl

theorem PortState.acceptRequest_of_not_permitted (known : requestOf code = some r) (hp : permits p r = false) :
    y.acceptRequest p code operands = { y with buffer := some ⟨.notPermitted, []⟩ } := by
  rw [PortState.acceptRequest, known]
  exact if_neg (Bool.eq_false_iff.mp hp)

theorem PortState.acceptRequest_of_permitted (known : requestOf code = some r) (hp : permits p r = true) :
    y.acceptRequest p code operands = { y with slot := some ⟨r, operands⟩ } := by
  rw [PortState.acceptRequest, known]
  exact if_pos hp

end

/-! ### Request codes and permissions (R196) -/

/-- No two rows of the table share a code, and every code is a byte: each row is the one its code finds. -/
theorem requestOf_row : ∀ row ∈ requestTable, requestOf (BitVec.ofNat 8 row.1) = some row.2 := by decide

theorem requestOf_eq_some_iff (code : Byte) (r : Request) :
    requestOf code = some r ↔ (code, r) ∈ requestTable.map fun row => ((BitVec.ofNat 8 row.1 : Byte), row.2) := by
  simp only [List.mem_map, Prod.mk.injEq]
  constructor
  · intro found
    obtain ⟨row, hrow, rfl⟩ := Option.map_eq_some_iff.mp found
    have key : row.1 = code.toNat := by simpa using List.find?_some hrow
    exact ⟨row, List.mem_of_find?_eq_some hrow, by rw [key, BitVec.ofNat_toNat, BitVec.setWidth_eq], rfl⟩
  · rintro ⟨row, hrow, rfl, rfl⟩
    exact requestOf_row row hrow

theorem permits_line_iff (r : Request) : permits .line r = true ↔ r ≠ .levelReport := by
  cases r <;> decide

theorem permits_inspection_iff (r : Request) :
    permits .inspection r = true ↔ r ∈ [Request.nop, .identify, .status, .eventsRead, .eventsMask, .headRead,
      .traceStatus, .traceNext, .traceFind, .traceRewind, .levelReport] :=
  decide_eq_true_iff

end Sys2Proof.Machine

namespace Sys2Proof.Proofs

open Sys2Proof.Machine

/-- Settles O48: a frame that closes leaves its port at one state `y`, and the class of its bytes, the check byte and
whether `y` is free choose what is made of `y`. -/
theorem frameEndsDeliverThenTakeTheRequest : Obligations.FrameEndsDeliverThenTakeTheRequest := by
  refine ⟨fun bytes _ hc => shiftedIn_bytes bytes hc, fun dt p s out bits hf => ?_, requestOf_eq_some_iff,
    fun r => ⟨permits_line_iff r, permits_inspection_iff r⟩⟩
  intro bytes x y free up becomes erred
  have run : exec (.frameEnd dt p bits) s = .next ((becomes (x.closed out bytes.length)).takeFrame p bytes) :=
    exec_frameEnd_of_open s p dt bits hf
  have closes : x.closed out bytes.length = y := by
    cases out with
    | response r flag => exact x.closed_response r flag bytes.length
    | notReady flag => rfl
    | filler => rfl
  rw [closes] at run
  clear_value y
  refine ⟨fun empty => ?_, fun bad => ?_, fun code len check operands extra fits hl layout => ?_⟩
  · rw [run, empty, State.takeFrame_nil]
  · rw [run, State.takeFrame_of_malformed _ p y (classify_malformed bad), y.frameError_eq]
    refine ⟨fun idle => ?_, fun busy => ?_⟩
    · rw [y.free_iff.mpr idle, if_pos rfl]
    · rw [y.free_eq_false busy, if_neg Bool.false_ne_true]
  have whole : classify bytes = .complete code operands check := by
    rw [layout, classify_complete code check extra fits hl]
  have goodness := checkGood_iff code check hl
  refine ⟨fun wrong => ?_, fun right => ⟨fun busy => ?_, fun idle => ?_⟩⟩
  · rw [run, State.takeFrame_of_check_wrong _ p y whole (Bool.eq_false_iff.mpr (mt goodness.mp wrong)),
      y.checkError_eq]
    refine ⟨fun idle => ?_, fun busy => ?_⟩
    · rw [y.free_iff.mpr idle, if_pos rfl]
    · rw [y.free_eq_false busy, if_neg Bool.false_ne_true]
  · rw [run, State.takeFrame_of_not_free _ p y whole (goodness.mpr right) (y.free_eq_false busy), y.collide_eq]
  · rw [run, State.takeFrame_of_free _ p y whole (goodness.mpr right) (y.free_iff.mpr idle)]
    refine ⟨fun unknown => ?_, fun r known => ⟨fun hp => ?_, fun hp => ?_⟩⟩
    · rw [y.acceptRequest_of_unknown p operands unknown]
    · rw [y.acceptRequest_of_not_permitted p operands known hp]
    · rw [y.acceptRequest_of_permitted p operands known hp]

end Sys2Proof.Proofs
end

section
/-! ## The check byte as a remainder over GF(2) (R191) -/

namespace Sys2Proof.Machine

open Polynomial

/-- A byte as a polynomial over GF(2), its most significant bit the coefficient of x⁷ (R191). -/
noncomputable def bytePoly (b : Byte) : (ZMod 2)[X] := ∑ i : Fin 8, if b.getLsb i then X ^ i.val else 0

/-- The divisor of R191. -/
noncomputable def crcPoly : (ZMod 2)[X] := X ^ 8 + X ^ 2 + X + 1

theorem crcPoly_degree : crcPoly.degree = 8 := by
  unfold crcPoly
  compute_degree!

theorem crcPoly_monic : crcPoly.Monic := by
  unfold crcPoly
  monicity!

theorem bytePoly_degree_lt (b : Byte) : (bytePoly b).degree < 8 := by
  refine (degree_sum_le _ _).trans_lt ((Finset.sup_lt_iff (by decide)).mpr fun i _ => ?_)
  split
  · exact (degree_X_pow_le _).trans_lt (by exact_mod_cast i.isLt)
  · exact degree_zero.trans_lt (by decide)

theorem bytePoly_zero : bytePoly 0 = 0 := by
  simp [bytePoly]

/-- Exclusive or is addition over GF(2). -/
theorem bytePoly_xor (a b : Byte) : bytePoly (a ^^^ b) = bytePoly a + bytePoly b := by
  unfold bytePoly
  rw [← Finset.sum_add_distrib]
  refine Finset.sum_congr rfl fun i _ => ?_
  have bits : (a ^^^ b).getLsb i = (a.getLsb i ^^ b.getLsb i) := BitVec.getElem_xor i.isLt
  rw [bits]
  cases a.getLsb i with
  | false => simp
  | true => cases b.getLsb i <;> simp [CharTwo.add_self_eq_zero]

/-- A shift multiplies by x, but for the most significant bit, which is lost. -/
theorem bytePoly_shiftLeft (b : Byte) : bytePoly (b <<< 1) + (if b.msb then X ^ 8 else 0) = bytePoly b * X := by
  have moved (j : Fin 7) : (b <<< 1).getLsb j.succ = b.getLsb j.castSucc := by
    change (b <<< 1)[j.val + 1] = b[j.val]
    simp
  have shifted : bytePoly (b <<< 1) = ∑ j : Fin 7, if b.getLsb j.castSucc then X ^ (j.val + 1) else 0 := by
    have low : (b <<< 1).getLsb 0 = false := by simp [BitVec.getLsb]
    rw [bytePoly, Fin.sum_univ_succ, low, if_neg Bool.false_ne_true, zero_add]
    simp only [moved, Fin.val_succ]
  have top : bytePoly b = (∑ j : Fin 7, if b.getLsb j.castSucc then X ^ j.val else 0) +
      if b.msb then X ^ 7 else 0 :=
    Fin.sum_univ_castSucc _
  simp only [shifted, top, add_mul, Finset.sum_mul, ite_mul, zero_mul, ← pow_succ]

/-! ### Arithmetic modulo the divisor -/

/-- The residue of a polynomial modulo the divisor. -/
noncomputable abbrev residue : (ZMod 2)[X] →+* AdjoinRoot crcPoly := AdjoinRoot.mk crcPoly

/-- Modulo the divisor x⁸ is x² + x + 1, the byte that the register takes for a bit shifted out. -/
theorem residue_X_pow_eight : residue (X ^ 8) = residue (bytePoly 7) := by
  have seven : bytePoly 7 = 1 + (X + X ^ 2) := by simp [bytePoly, Fin.sum_univ_succ]
  have divisor : X ^ 8 - bytePoly 7 = crcPoly := by
    rw [seven, CharTwo.sub_eq_add, crcPoly]
    ring
  exact AdjoinRoot.mk_eq_mk.mpr divisor.symm.dvd

theorem residue_crcShift (x : Byte) : residue (bytePoly (crcShift x)) = residue (bytePoly x * X) := by
  rw [← bytePoly_shiftLeft, crcShift]
  cases x.msb with
  | false => simp
  | true => simp [bytePoly_xor, residue_X_pow_eight]

theorem residue_repeat_crcShift (n : Nat) (x : Byte) :
    residue (bytePoly (Nat.repeat crcShift n x)) = residue (bytePoly x * X ^ n) := by
  induction n with
  | zero => simp [Nat.repeat]
  | succ n ih => rw [Nat.repeat, residue_crcShift, map_mul, ih, ← map_mul, mul_assoc, ← pow_succ]

theorem residue_crcByte (register b : Byte) :
    residue (bytePoly (crcByte register b)) = residue ((bytePoly register + bytePoly b) * X ^ 8) := by
  rw [crcByte, residue_repeat_crcShift, bytePoly_xor]

/-- The register holds the residue of the bytes taken so far times x⁸, and each further byte keeps it so. -/
theorem residue_foldl_crcByte (bytes : List Byte) (register : Byte) (acc : (ZMod 2)[X])
    (h : residue (bytePoly register) = residue (acc * X ^ 8)) :
    residue (bytePoly (bytes.foldl crcByte register)) =
      residue (bytes.foldl (fun acc b => acc * X ^ 8 + bytePoly b) acc * X ^ 8) := by
  induction bytes generalizing register acc with
  | nil => exact h
  | cons b bytes ih =>
    refine ih _ _ ?_
    rw [residue_crcByte, map_mul, map_add, h, ← map_add, ← map_mul]

/-- A polynomial of degree below 8 is the remainder of every polynomial with its residue. -/
theorem eq_modByMonic_of_residue_eq {q f : (ZMod 2)[X]} (small : q.degree < 8) (h : residue q = residue f) :
    q = f %ₘ crcPoly := by
  rw [← modByMonic_eq_of_dvd_sub crcPoly_monic (AdjoinRoot.mk_eq_mk.mp h)]
  exact ((modByMonic_eq_self_iff crcPoly_monic).mpr (by rwa [crcPoly_degree])).symm

end Sys2Proof.Machine

namespace Sys2Proof.Proofs

open Sys2Proof.Machine

/-- Settles O49: the register holds the residue of the bytes taken so far, times x⁸, and a byte is its own
remainder. -/
theorem checkByteIsThePolynomialRemainder : Obligations.CheckByteIsThePolynomialRemainder := by
  intro bytes
  have start : residue (bytePoly 0) = residue (0 * Polynomial.X ^ 8) := by rw [bytePoly_zero, zero_mul]
  exact eq_modByMonic_of_residue_eq (bytePoly_degree_lt _) (residue_foldl_crcByte bytes 0 0 start)

end Sys2Proof.Proofs
end

section
/-! ## Raised events and ATTN (R197 to R199) -/

namespace Sys2Proof.Machine

theorem anySet_iff (w b : U16) : anySet w b = true ↔ w &&& b ≠ 0 := bne_iff_ne

section

variable (now : Nat) (k : EventKind) (x : PortState)

/-- A raised event moves the status bits and the pulse of a port and nothing else (R197, R199). -/
theorem PortState.take_eq :
    x.take now k = { x with events := (x.take now k).events, pulse := (x.take now k).pulse } := rfl

/-- In PULSE a masked bit that was clear gives a pulse from now (R199). -/
theorem PortState.take_pulse_of_cause (mode : x.attnMode = .pulse) (masked : x.mask &&& k.bit ≠ 0)
    (clear : x.events &&& k.bit = 0) : (x.take now k).pulse = some now :=
  if_pos ⟨mode, (anySet_iff _ _).mpr masked, mt (anySet_iff _ _).mp (not_not.mpr clear)⟩

theorem PortState.take_pulse_of_no_cause
    (h : x.attnMode ≠ .pulse ∨ x.mask &&& k.bit = 0 ∨ x.events &&& k.bit ≠ 0) :
    (x.take now k).pulse = x.pulse := by
  refine if_neg ?_
  rintro ⟨mode, masked, clear⟩
  rcases h with other | unmasked | already
  · exact other mode
  · exact (anySet_iff _ _).mp masked unmasked
  · exact clear ((anySet_iff _ _).mpr already)

theorem PortState.attn_level_iff (mode : x.attnMode = .level) : x.attn = true ↔ x.events &&& x.mask ≠ 0 := by
  rw [PortState.attn, mode]
  exact anySet_iff _ _

theorem PortState.attn_pulse_iff (mode : x.attnMode = .pulse) : x.attn = true ↔ x.pulse ≠ none := by
  rw [PortState.attn, mode]
  exact Option.isSome_iff_ne_none

end

theorem State.port_raise_of_kept (s : State) {k : EventKind} {p : Port} (kept : keepsKind p k = true) :
    (s.raise k).port p = (s.port p).take s.now k := by
  rw [State.port_raise, if_pos kept]

theorem State.port_raise_of_not_kept (s : State) {k : EventKind} {p : Port} (other : keepsKind p k = false) :
    (s.raise k).port p = s.port p := by
  rw [State.port_raise, if_neg (Bool.eq_false_iff.mp other)]

end Sys2Proof.Machine

namespace Sys2Proof.Proofs

open Sys2Proof.Machine

/-- Settles O50: a port that keeps the kind takes the event, any other stays as it was, and each ATTN mode reads off
its own part of the port. -/
theorem raisedEventsSetBitsAndDriveAttn : Obligations.RaisedEventsSetBitsAndDriveAttn := by
  intro k p s x y
  refine ⟨s.port_raise_of_not_kept, fun kept => ?_, x.attn_level_iff, x.attn_pulse_iff, s.raise_eq k⟩
  have taken : y = x.take s.now k := s.port_raise_of_kept kept
  rw [taken]
  exact ⟨rfl, x.take_eq s.now k, x.take_pulse_of_cause s.now k, x.take_pulse_of_no_cause s.now k⟩

end Sys2Proof.Proofs
end

section
/-! ## What a step is made of

A command lets its time pass and takes its pins (`Quiet`), and then makes a run of moves, each of which changes one
part of the state (`Move`, `Run`). What every move keeps, every step keeps. -/

namespace Sys2Proof.Machine

/-! ### Moves of one port -/

/-- A BUSY slot stands beside an empty buffer (R189). -/
def PortState.Exclusive (x : PortState) : Prop := x.slot.isSome = true → x.buffer = none

/-- Status and mask hold bits of the port's own kinds alone (R201). -/
def PortState.Own (p : Port) (x : PortState) : Prop :=
  x.events &&& ~~~keptBits p = 0 ∧ x.mask &&& ~~~keptBits p = 0

/-- A change of a port that keeps both its laws. -/
structure PortMove (p : Port) (x y : PortState) : Prop where
  exclusive : x.Exclusive → y.Exclusive
  own : x.Own p → y.Own p

/-! ### Moves of one head -/

/-- What `FillsMeetTheirClose` says of one head. -/
def Sequencer.MeetsClose (q : Sequencer) : Prop :=
  ∀ p, q.plan = some p →
    (1 ≤ p.pClose ∧ p.pClose ≤ 65535) ∧ q.fillCount.toNat ≤ p.pClose ∧
    (q.state = .fillFast ∨ q.state = .fillSlow ∨ q.state = .held → q.fillCount.toNat < p.pClose) ∧
    (q.state = .armed ∨ q.state = .pressurizing ∨ q.state = .pressurized → q.fillCount = 0)

/-- The commands that end cycles: the resets, POCKETS_CLEAR, and those that bring heads to their release. -/
def EndsCycles (c : Instr) : Prop :=
  ∃ dt a b infeed, c = .powerOnReset dt ∨ c = .restart dt ∨ c = .pocketsClear dt ∨ c = .encoderCount dt a b infeed ∨
    c = .indexArrival dt infeed

/-- The commands that write a calibration (R105). -/
def Calibrates (c : Instr) : Prop :=
  ∃ dt, c = .headCalWrite dt ∨ c = .headTrimSet dt ∨ c = .tuningWrite dt ∨ c = .levelReport dt

/-- What one event makes of the cycle of head `h`, which is `x` before it and has the sequencer `q` after it. -/
structure CycleMove (c : Instr) (s : State) (h : HeadId) (x : Head) (q : Sequencer) : Prop where
  idle : x.seq.state = .idle → q.state = .idle ∨ h.val < s.cfg.n
  underWay : q.state.underWay = true → x.seq.state.underWay = true ∨ s.mode = .production
  plan : ∀ p, q.plan = some p → x.seq.plan = some p ∨
    ∃ (slot : Slot) (r : Recipe), s.recipes[slot.val] = some r ∧ formPlan slot r x.entry s.cfg.t = some p
  count : x.seq.MeetsClose → q.MeetsClose
  outcome : EndsCycles c ∨
    ∀ o, x.seq.outcome = some o → x.seq.state ≠ .armed → q.outcome = some o ∧ q.state ≠ .armed

/-- What one event makes of a head table record. -/
structure EntryMove (c : Instr) (k : TuningBlock) (e e' : HeadRecord) : Prop where
  trim : e.trim.natAbs ≤ k.trimLimit → e'.trim.natAbs ≤ k.trimLimit
  factor : 2000 ≤ e.q ∧ e.q ≤ 100000 → 2000 ≤ e'.q ∧ e'.q ≤ 100000
  lead : e.l16 ≤ 4080 → e'.l16 ≤ 4080
  history : e.history.length ≤ 8 → e'.history.length ≤ 8
  service : 1 ≤ k.blockThreshold → (e.service = .inService → e.faults < k.blockThreshold) →
    e'.service = .inService → e'.faults < k.blockThreshold
  epoch : Calibrates c ∨ calibration e' = calibration e ∧ e'.epoch = e.epoch

/-- One event at head `h`: it stays in its fill state with its valve commands and their settle timers, or it enters a
fill state and its commands are driven to those of that state (R30, R31). -/
inductive HeadMove (c : Instr) (s : State) (h : HeadId) (x : Head) : Head → Prop where
  | stays (y : Head) (cycle : CycleMove c s h x y.seq) (entry : EntryMove c s.tuning x.entry y.entry)
      (state : y.seq.state = x.seq.state) (cmd : y.iface.cmd = x.iface.cmd) (settle : y.iface.settle = x.iface.settle) :
      HeadMove c s h x y
  | enters (q : Sequencer) (e : HeadRecord) (st : FillState) (cycle : CycleMove c s h x { q with state := st })
      (entry : EntryMove c s.tuning x.entry e) :
      HeadMove c s h x
        { x with
          seq := { q with state := st }
          iface := x.iface.drive s.now s.cfg (outputsOf st)
          entry := e }

/-! ### Moves of the state -/

/-- A change of the queue other than by a new record: nothing held is new, and the serials go on as they were or
start afresh in an empty queue. -/
structure QueueMove (q q' : TraceQueue) : Prop where
  held : q'.held.Sublist q.held
  created : q'.created = q.created
  serial : q'.nextSerial = q.nextSerial ∨ q'.held = [] ∧ q'.nextSerial ≠ 0
  account :
    q.created = BitVec.ofNat 32 q.held.length + q.matched + q.expired + q.evicted + q.cleared + q.lost →
    q'.created = BitVec.ofNat 32 q'.held.length + q'.matched + q'.expired + q'.evicted + q'.cleared + q'.lost

/-- One move of command `c`, with how many trace records it makes. -/
inductive Move (c : Instr) : Nat → State → State → Prop where
  | tracker {s : State} (k : Tracker) (range : TrackerInRange s → TrackerInRange { s with tracker := k }) :
      Move c 0 s { s with tracker := k }
  | heads {s : State} (f : HeadId → Head → Head) (each : ∀ h, HeadMove c s h (s.head h) (f h (s.head h))) :
      Move c 0 s (s.mapHeads f)
  | port {s : State} (p : Port) (f : PortState → PortState) (keeps : PortMove p (s.port p) (f (s.port p))) :
      Move c 0 s (s.updPort p f)
  | mode {s : State} (m : Mode)
      (stopped : StoppedInSetupAndHalt s → m = .setup ∨ m = .halt → ∀ h, (s.head h).seq.state.underWay = false) :
      Move c 0 s { s with mode := m }
  | recipe {s : State} (slot : Slot) (r : Option Recipe) (accepted : ∀ r', r = some r' → r'.acceptable = true)
      (free : r = none → s.stack.names slot = false) : Move c 0 s (s.setRecipe slot r)
  | stack {s : State} (k : RecipeStack) (sound : StackSound s → StackSound { s with stack := k }) :
      Move c 0 s { s with stack := k }
  | queue {s : State} (q : TraceQueue) (keeps : QueueMove s.queue q) : Move c 0 s { s with queue := q }
  | record {s : State} (d : RecordDraft) : Move c 1 s { s with queue := s.queue.accept s.cfg.traceMode d }
  | counts {s : State} (errors : U16) (choices : Nat) :
      Move c 0 s { s with reportErrors := errors, choices := choices }
  | powerOn {s : State} (command : ∃ dt, c = .powerOnReset dt) : Move c 0 s s.powerOn
  | restart {s : State} (command : ∃ dt, c = .restart dt) : Move c 0 s s.restarted
  | configure {s : State} (new : ConfigBlock) (command : ∃ dt, c = .configWrite dt) (setup : s.mode = .setup)
      (idle : s.headsBusy = false) (block : ∃ ops, configOf ops = some new) : Move c 0 s (s.configure new)
  | tune {s : State} (ops : List Byte) (command : Calibrates c) : Move c 0 s (s.tune (tuningOf ops))

/-- A run of moves of command `c` that makes at most `b` trace records. -/
inductive Run (c : Instr) : Nat → State → State → Prop where
  | refl (b : Nat) (s : State) : Run c b s s
  | cons {n b : Nat} {s t u : State} (first : Move c n s t) (rest : Run c b t u) : Run c (n + b) s u

theorem Run.of_eq {c : Instr} {b : Nat} {s t : State} (h : t = s) : Run c b s t := by
  rw [h]
  exact .refl b s

theorem Run.mono {c : Instr} {b : Nat} {s t : State} (r : Run c b s t) : ∀ {b'}, b ≤ b' → Run c b' s t := by
  induction r with
  | refl b s => exact fun _ => .refl _ s
  | @cons n b s t u first rest ih =>
    intro b' hb
    obtain ⟨k, rfl⟩ := Nat.exists_eq_add_of_le (Nat.le_of_add_right_le hb : n ≤ b')
    exact .cons first (ih (by omega))

theorem Run.trans {c : Instr} {b b' : Nat} {s t u : State} (r : Run c b s t) (r' : Run c b' t u) :
    Run c (b + b') s u := by
  induction r with
  | refl b s => exact r'.mono (by omega)
  | cons first rest ih =>
    rw [Nat.add_assoc]
    exact .cons first (ih r')

/-- A run, and then one that makes no record. -/
theorem Run.then {c : Instr} {b : Nat} {s t u : State} (r : Run c b s t) (r' : Run c 0 t u) : Run c b s u :=
  r.trans r'

theorem Run.after {c : Instr} {b : Nat} {s t u : State} (r : Run c 0 s t) (r' : Run c b t u) : Run c b s u :=
  (r.trans r').mono (Nat.zero_add b).le

theorem Move.run {c : Instr} {n : Nat} {s t : State} (m : Move c n s t) : Run c n s t := .cons m (.refl 0 t)

/-- What every move keeps, a run keeps. -/
theorem Run.keeps {c : Instr} {P : State → Prop} (move : ∀ n s t, Move c n s t → P s → P t) {b : Nat} {s t : State}
    (r : Run c b s t) (h : P s) : P t := by
  induction r with
  | refl => exact h
  | cons first _ ih => exact ih (move _ _ _ first h)

/-! ### What comes before the moves -/

/-- Nothing has changed but the time, the levels on the pins, the queue of commands, and the settle timers of the
outputs. -/
structure Quiet (s u : State) : Prop where
  tracker : u.tracker = s.tracker
  recipes : u.recipes = s.recipes
  stack : u.stack = s.stack
  queue : u.queue = s.queue
  mode : u.mode = s.mode
  cfg : u.cfg = s.cfg
  tuning : u.tuning = s.tuning
  port : ∀ p, u.port p = s.port p
  seq : ∀ h, (u.head h).seq = (s.head h).seq
  cmd : ∀ h, (u.head h).iface.cmd = (s.head h).iface.cmd
  entry : ∀ h, (u.head h).entry = (s.head h).entry

theorem Quiet.elapse (s : State) (dt : Nat) : Quiet s (s.elapse dt) :=
  ⟨rfl, rfl, rfl, rfl, rfl, rfl, rfl, fun p => by cases p <;> rfl, fun _ => rfl, fun _ => rfl, fun _ => rfl⟩

end Sys2Proof.Machine
end

section
/-! ## Every event of one head is a move of that head -/

namespace Sys2Proof.Machine

/-! ### The chart of the fill states -/

/-- The edges of the chart of chapter 3 within one cycle. -/
def FillState.edges : List (FillState × FillState) :=
  [(.armed, .pressurizing), (.armed, .pressurized), (.pressurizing, .pressurized), (.pressurizing, .snift),
   (.pressurized, .fillFast), (.pressurized, .fillSlow), (.pressurized, .snift),
   (.fillFast, .fillSlow), (.fillFast, .held), (.fillFast, .settle), (.fillFast, .snift),
   (.fillSlow, .held), (.fillSlow, .settle), (.fillSlow, .snift),
   (.held, .fillSlow), (.held, .settle), (.held, .snift), (.settle, .snift), (.snift, .discharge)]

/-- A change of fill state within one cycle: none, or an edge of the chart. -/
abbrev FillState.LeadsTo (a b : FillState) : Prop := a = b ∨ (a, b) ∈ edges

section

variable {a b : FillState} (h : a.LeadsTo b)
include h

/-- What holds of a state that stays and along every edge holds along the chart. -/
theorem FillState.LeadsTo.rel {r : FillState × FillState → Prop} (stay : r (a, a)) (edge : ∀ e ∈ edges, r e) :
    r (a, b) := by
  rcases h with rfl | h
  · exact stay
  · exact edge _ h

theorem FillState.LeadsTo.idle : a = .idle → b = .idle :=
  h.rel (r := fun e => e.1 = .idle → e.2 = .idle) id (by decide)

theorem FillState.LeadsTo.ne_armed : a ≠ .armed → b ≠ .armed :=
  h.rel (r := fun e => e.1 ≠ .armed → e.2 ≠ .armed) id (by decide)

theorem FillState.LeadsTo.underWay : b.underWay = true → a.underWay = true :=
  h.rel (r := fun e => e.2.underWay = true → e.1.underWay = true) id (by decide)

/-- A fill that is open, or held, was so or was pressurized. -/
theorem FillState.LeadsTo.opened :
    b = .fillFast ∨ b = .fillSlow ∨ b = .held → (a = .fillFast ∨ a = .fillSlow ∨ a = .held) ∨ a = .pressurized :=
  h.rel (r := fun e => e.2 = .fillFast ∨ e.2 = .fillSlow ∨ e.2 = .held →
    (e.1 = .fillFast ∨ e.1 = .fillSlow ∨ e.1 = .held) ∨ e.1 = .pressurized) .inl (by decide)

/-- A fill that has not opened had not. -/
theorem FillState.LeadsTo.unopened :
    b = .armed ∨ b = .pressurizing ∨ b = .pressurized → a = .armed ∨ a = .pressurizing ∨ a = .pressurized :=
  h.rel (r := fun e => e.2 = .armed ∨ e.2 = .pressurizing ∨ e.2 = .pressurized →
    e.1 = .armed ∨ e.1 = .pressurizing ∨ e.1 = .pressurized) id (by decide)

end

/-! ### Moves along the chart -/

variable {c : Instr} {s : State} {h : HeadId} {x : Head}

theorem EntryMove.refl (c : Instr) (k : TuningBlock) (e : HeadRecord) : EntryMove c k e e :=
  ⟨id, id, id, id, fun _ => id, .inr ⟨rfl, rfl⟩⟩

/-- A change along the chart that keeps the plan and the fill count, and the outcome once it is set. -/
theorem CycleMove.of_leadsTo {q : Sequencer} {a b : FillState} (ha : x.seq.state = a) (hb : q.state = b)
    (chart : a.LeadsTo b) (plan : q.plan = x.seq.plan) (count : q.fillCount = x.seq.fillCount)
    (outcome : ∀ o, x.seq.outcome = some o → q.outcome = some o) : CycleMove c s h x q where
  idle hi := .inl (hb.trans (chart.idle (ha.symm.trans hi)))
  underWay hu := .inl (ha ▸ chart.underWay (hb ▸ hu))
  plan p hp := .inl (plan ▸ hp)
  outcome := .inr fun o ho unarmed => ⟨outcome o ho, hb ▸ chart.ne_armed (ha ▸ unarmed)⟩
  count meets p hp := by
    subst ha hb
    obtain ⟨range, le, opened, unopened⟩ := meets p (plan ▸ hp)
    rw [count]
    refine ⟨range, le, fun hb => ?_, fun hb => unopened (chart.unopened hb)⟩
    rcases chart.opened hb with ha | ha
    · exact opened ha
    · rw [unopened (.inr (.inr ha))]
      exact range.1

/-- Entry to the next state of the chart. -/
theorem CycleMove.along {q : Sequencer} {a st : FillState} (ha : x.seq.state = a) (chart : a.LeadsTo st)
    (plan : q.plan = x.seq.plan) (count : q.fillCount = x.seq.fillCount)
    (outcome : ∀ o, x.seq.outcome = some o → q.outcome = some o) : CycleMove c s h x { q with state := st } :=
  .of_leadsTo ha rfl chart plan count outcome

theorem CycleMove.refl (c : Instr) (s : State) (h : HeadId) (x : Head) : CycleMove c s h x x.seq :=
  .of_leadsTo rfl rfl (.inl rfl) rfl rfl fun _ => id

theorem HeadMove.refl (c : Instr) (s : State) (h : HeadId) (x : Head) : HeadMove c s h x x :=
  .stays x (.refl c s h x) (.refl ..) rfl rfl rfl

theorem HeadMove.enter (q : Sequencer) (st : FillState) (cycle : CycleMove c s h x { q with state := st }) :
    HeadMove c s h x (({ x with seq := q }).enter s.now s.cfg st) :=
  .enters q x.entry st cycle (.refl ..)

theorem HeadMove.of_seq (q : Sequencer) (cycle : CycleMove c s h x q) (state : q.state = x.seq.state) :
    HeadMove c s h x { x with seq := q } :=
  .stays _ cycle (.refl ..) state rfl rfl

theorem HeadMove.of_entry (e : HeadRecord) (entry : EntryMove c s.tuning x.entry e) :
    HeadMove c s h x { x with entry := e } :=
  .stays _ (.refl c s h x) entry rfl rfl rfl

theorem HeadMove.of_iface (y : Head) (seq : y.seq = x.seq) (entry : y.entry = x.entry)
    (cmd : y.iface.cmd = x.iface.cmd) (settle : y.iface.settle = x.iface.settle) : HeadMove c s h x y :=
  .stays y (seq ▸ .refl c s h x) (entry ▸ .refl ..) (by rw [seq]) cmd settle

theorem Sequencer.outcome_setOutcome (q : Sequencer) (o o' : FillOutcome) (ho : q.outcome = some o') :
    (q.setOutcome o).outcome = some o' := by
  rw [Sequencer.setOutcome_eq, ho, Option.getD_some]

/-! ### Boundaries -/

theorem Head.switchAssert_move : HeadMove c s h x (x.switchAssert s.now s.cfg) := by
  unfold Head.switchAssert
  split
  · rename_i st
    exact .enter x.seq .pressurized (.along st (by decide) rfl rfl fun _ => id)
  · exact .refl ..

/-- Driving the commands to where they stand changes nothing. -/
theorem Iface.drive_self (now : Nat) (cfg : ConfigBlock) (new : Outputs Bool) (i : Iface) :
    (i.drive now cfg new).drive now cfg new = i.drive now cfg new := by
  simp [Iface.drive, settleOnChange]

/-- P opening on a level already ASSERTED goes through PRESSURIZING to PRESSURIZED at once (R29, R45). -/
theorem Head.enter_pressurizing_switchAssert (now : Nat) (cfg : ConfigBlock) (x : Head) :
    (x.enter now cfg .pressurizing).switchAssert now cfg = x.enter now cfg .pressurized := by
  have driven := x.iface.drive_self now cfg (outputsOf .pressurized)
  exact congrArg (fun i : Iface => { x with seq := { x.seq with state := .pressurized }, iface := i }) driven

theorem Head.onPress_move : HeadMove c s h x (x.onPress s.now s.cfg) := by
  unfold Head.onPress
  split
  · rename_i st
    split
    · rw [Head.enter_pressurizing_switchAssert]
      exact .enter x.seq .pressurized (.along st (by decide) rfl rfl fun _ => id)
    · exact .enter x.seq .pressurizing (.along st (by decide) rfl rfl fun _ => id)
  · exact .refl ..

/-- A cycle cut short from a state that may snift. -/
theorem Head.endWith_move (o : FillOutcome) (st : x.seq.state.LeadsTo .snift) :
    HeadMove c s h x (x.endWith s.now s.cfg o) := by
  refine .enter _ .snift (.along rfl st ?_ ?_ fun o' ho => ?_)
  · simp [Sequencer.setOutcome_eq]
  · simp [Sequencer.setOutcome_eq]
  · exact x.seq.outcome_setOutcome o o' ho

theorem Head.enterSettle_move {q : Sequencer} (cycle : CycleMove c s h x { q with state := .settle }) :
    HeadMove c s h x (({ x with seq := q }).enterSettle s.now s.cfg) :=
  .enter _ .settle ⟨cycle.idle, cycle.underWay, cycle.plan, cycle.count, cycle.outcome⟩

/-- A fill that ends in SETTLE with an outcome. -/
theorem Head.settleWith_move (o : FillOutcome) (st : x.seq.state.LeadsTo .settle) :
    HeadMove c s h x (({ x with seq := x.seq.setOutcome o }).enterSettle s.now s.cfg) := by
  refine Head.enterSettle_move (.along rfl st ?_ ?_ fun o' ho => ?_)
  · simp [Sequencer.setOutcome_eq]
  · simp [Sequencer.setOutcome_eq]
  · exact x.seq.outcome_setOutcome o o' ho

theorem Head.onFill_move : HeadMove c s h x (x.onFill s.now s.cfg) := by
  unfold Head.onFill
  split
  · rename_i st
    split
    · exact .refl ..
    · split
      · exact .enter _ .fillFast (.along st (by decide) rfl rfl fun _ => id)
      · exact .enter _ .fillSlow (.along st (by decide) rfl rfl fun _ => id)
  · rename_i st
    exact Head.endWith_move _ (by rw [st]; decide)
  · exact .refl ..

theorem Head.onClose_move : HeadMove c s h x (x.onClose s.now s.cfg) := by
  unfold Head.onClose
  split
  · rename_i st
    exact Head.settleWith_move _ (by rw [st]; decide)
  · rename_i st
    exact Head.settleWith_move _ (by rw [st]; decide)
  · exact .refl ..

/-- The lead that a settle end learns lies in its range (R88). -/
theorem learnedLead_le (l16 gain o : Nat) : learnedLead l16 gain o ≤ 4080 := by
  rw [learnedLead_eq]
  omega

/-- A settle end sets the outcome if none is set, and of the head's record moves the lead alone, within its range. -/
theorem settleEnd_shape (x : Head) : ∃ (o : Option FillOutcome) (lead : Nat),
    settleEnd x = { x with seq := { x.seq with outcome := o }, entry := { x.entry with l16 := lead } } ∧
    (∀ o', x.seq.outcome = some o' → o = some o') ∧ (x.entry.l16 ≤ 4080 → lead ≤ 4080) := by
  cases hp : x.seq.plan with
  | none => exact ⟨x.seq.outcome, x.entry.l16, by rw [settleEnd, hp], fun _ => id, id⟩
  | some p =>
    refine ⟨some (x.seq.outcome.getD (decideOutcome p x.seq)),
      if learnsLead (x.seq.setOutcome (decideOutcome p x.seq)) = true then
        learnedLead p.l16 p.leadGain x.seq.overrunCount.toNat else x.entry.l16, ?_, fun o' ho => ?_, fun hl => ?_⟩
    · rw [settleEnd_eq hp, Sequencer.setOutcome_eq]
      split <;> rfl
    · rw [ho, Option.getD_some]
    · split
      · exact learnedLead_le _ _ _
      · exact hl

theorem EntryMove.of_lead {k : TuningBlock} {e : HeadRecord} {lead : Nat} (bound : e.l16 ≤ 4080 → lead ≤ 4080) :
    EntryMove c k e { e with l16 := lead } :=
  ⟨id, id, bound, id, fun _ => id, .inr ⟨rfl, rfl⟩⟩

/-- The start of snift from SETTLE, whatever has been marked before it. -/
theorem Head.startSnift_move {q : Sequencer} (st : x.seq.state = .settle) (plan : q.plan = x.seq.plan)
    (count : q.fillCount = x.seq.fillCount) (outcome : q.outcome = x.seq.outcome) :
    HeadMove c s h x (({ x with seq := q }).startSnift s.now s.cfg) := by
  obtain ⟨o, lead, shape, kept, bound⟩ := settleEnd_shape { x with seq := q }
  rw [Head.startSnift, shape]
  exact .enters _ _ .snift (.along st (by decide) plan count fun o' ho => kept o' (outcome.trans ho))
    (.of_lead bound)

theorem Head.onSnift_move : HeadMove c s h x (x.onSnift s.now s.cfg) := by
  unfold Head.onSnift
  split
  · rename_i st
    split
    · exact Head.startSnift_move st rfl rfl rfl
    · exact .of_seq _ (.of_leadsTo rfl rfl (.inl rfl) rfl rfl fun _ => id) rfl
  · exact .refl ..

/-! ### Pulses -/

theorem satInc_of_lt {c : U16} {n : Nat} (hc : c.toNat < n) (hn : n ≤ 65535) : (satInc c).toNat = c.toNat + 1 := by
  have ne : c ≠ 65535 := by
    rintro rfl
    exact absurd hc (Nat.not_lt.mpr hn)
  rw [satInc, if_neg ne, BitVec.toNat_add_of_lt (by simp; omega)]
  rfl

/-- A fill pulse below the close: one more, which is the close or still below it, in no state before the fill. -/
theorem CycleMove.counted {q : Sequencer} {st : FillState} (hb : q.state = st)
    (ha : x.seq.state = .fillFast ∨ x.seq.state = .fillSlow ∨ x.seq.state = .held) (plan : q.plan = x.seq.plan)
    (count : q.fillCount = satInc x.seq.fillCount) (outcome : q.outcome = x.seq.outcome)
    (chart : x.seq.state.LeadsTo st)
    (close : ∀ p, x.seq.plan = some p → (satInc x.seq.fillCount).toNat = p.pClose → st = .settle) :
    CycleMove c s h x q := by
  subst hb
  have along : CycleMove c s h x { x.seq with state := q.state } := .along rfl chart rfl rfl fun _ => id
  refine ⟨along.idle, along.underWay, plan ▸ along.plan, fun meets p hp => ?_, outcome ▸ along.outcome⟩
  obtain ⟨range, -, opened, -⟩ := meets p (plan ▸ hp)
  have below : x.seq.fillCount.toNat < p.pClose := opened ha
  have up := satInc_of_lt below range.2
  rw [count]
  refine ⟨range, by omega, fun hst => Nat.lt_of_le_of_ne (by omega) fun heq => ?_, fun hst => ?_⟩
  · have settled : q.state = .settle := close p (plan ▸ hp) heq
    simp [settled] at hst
  · have unopened := chart.unopened hst
    rcases ha with ha | ha | ha <;> simp [ha] at unopened

theorem Head.fillPulse_of_no_plan (now angle : Nat) (cfg : ConfigBlock) (hp : x.seq.plan = none) :
    x.fillPulse now cfg angle = { x with seq := { x.seq with fillCount := satInc x.seq.fillCount } } := by
  unfold Head.fillPulse
  split
  · rfl
  · rename_i some
    cases hp.symm.trans some

theorem Head.heldPulse_of_no_plan (now angle : Nat) (cfg : ConfigBlock) (hp : x.seq.plan = none) :
    x.heldPulse now cfg angle = { x with seq := { x.seq with fillCount := satInc x.seq.fillCount } } := by
  unfold Head.heldPulse
  simp only []
  split
  · rfl
  · rename_i some
    cases hp.symm.trans some

theorem Head.fillPulse_move (angle : Nat) (st : x.seq.state = .fillFast ∨ x.seq.state = .fillSlow) :
    HeadMove c s h x (x.fillPulse s.now s.cfg angle) := by
  have opened : x.seq.state = .fillFast ∨ x.seq.state = .fillSlow ∨ x.seq.state = .held := by
    rcases st with st | st <;> simp [st]
  have settles : x.seq.state.LeadsTo .settle := by rcases st with st | st <;> rw [st] <;> decide
  cases hp : x.seq.plan with
  | none =>
    rw [Head.fillPulse_of_no_plan _ _ _ hp]
    exact .of_seq _ (.counted rfl opened rfl rfl rfl (.inl rfl) (by simp [hp])) rfl
  | some p =>
    rw [Head.fillPulse_of_plan _ _ _ hp]
    simp only []
    split
    · exact Head.enterSettle_move (.counted rfl opened rfl rfl rfl settles fun _ _ _ => rfl)
    · rename_i notClose
      have notClose' : ∀ p', x.seq.plan = some p' → (satInc x.seq.fillCount).toNat ≠ p'.pClose := by
        rw [hp]
        rintro p' ⟨⟩
        exact notClose
      split
      · rename_i switch
        refine .enter _ .fillSlow (.counted (st := .fillSlow) rfl opened rfl rfl rfl (by rw [switch.2]; decide) fun p' hp' heq => ?_)
        exact absurd heq (notClose' p' hp')
      · refine .of_seq _ (.counted rfl opened rfl rfl rfl (.inl rfl) fun p' hp' heq => ?_) rfl
        exact absurd heq (notClose' p' hp')

theorem Head.heldPulse_move (angle : Nat) (st : x.seq.state = .held) :
    HeadMove c s h x (x.heldPulse s.now s.cfg angle) := by
  cases hp : x.seq.plan with
  | none =>
    rw [Head.heldPulse_of_no_plan _ _ _ hp]
    exact .of_seq _ (.counted rfl (by simp [st]) rfl rfl rfl (.inl rfl) (by simp [hp])) rfl
  | some p =>
    rw [Head.heldPulse_of_plan _ _ _ hp]
    simp only []
    split
    · exact Head.enterSettle_move (.counted (st := .settle) rfl (by simp [st]) rfl rfl rfl (by rw [st]; decide) fun _ _ _ => rfl)
    · rename_i notClose
      refine .of_seq _ (.counted rfl (by simp [st]) rfl rfl rfl (.inl rfl) fun p' hp' heq => ?_) rfl
      rw [hp] at hp'
      cases hp'
      exact absurd heq notClose

theorem Head.acceptedPulse_move (angle : Nat) : HeadMove c s h x (x.acceptedPulse s.now s.cfg angle) := by
  unfold Head.acceptedPulse
  split
  · exact Head.fillPulse_move angle (.inl ‹_›)
  · exact Head.fillPulse_move angle (.inr ‹_›)
  · exact Head.heldPulse_move angle ‹_›
  · exact .of_seq _ (.of_leadsTo rfl rfl (.inl rfl) rfl rfl fun _ => id) rfl
  all_goals exact .of_iface _ rfl rfl rfl rfl

/-! ### Timers, motion and HALT entry -/

theorem Head.onNoFlow_move : HeadMove c s h x (x.onNoFlow s.now s.cfg) := by
  unfold Head.onNoFlow
  split
  · rename_i st
    split
    · exact Head.settleWith_move _ (by rw [st]; decide)
    · exact .refl ..
  · rename_i st
    split
    · exact Head.settleWith_move _ (by rw [st]; decide)
    · exact .refl ..
  · exact .refl ..

theorem Head.onHold_move : HeadMove c s h x (x.onHold s.now s.cfg) := by
  unfold Head.onHold
  split
  · rename_i st
    split
    · exact Head.endWith_move _ (by rw [st]; decide)
    · exact .refl ..
  · exact .refl ..

theorem Head.onSettled_move : HeadMove c s h x (x.onSettled s.now s.cfg) := by
  unfold Head.onSettled
  split
  · rename_i st
    split
    · simp only []
      split
      · exact Head.startSnift_move st rfl rfl rfl
      · exact .of_seq _ (.of_leadsTo rfl rfl (.inl rfl) rfl rfl fun _ => id) rfl
    · exact .refl ..
  · exact .refl ..

theorem Head.motionLeave_move : HeadMove c s h x (x.motionLeave s.now s.cfg) := by
  unfold Head.motionLeave
  split
  · rename_i st
    exact .enter _ .held (.along st (by decide) rfl rfl fun _ => id)
  · rename_i st
    exact .enter _ .held (.along st (by decide) rfl rfl fun _ => id)
  · exact .refl ..

theorem Head.firstAdvance_move : HeadMove c s h x (x.firstAdvance s.now s.cfg) := by
  unfold Head.firstAdvance
  split
  · rename_i st
    exact .enter _ .fillSlow (.along st (by decide) rfl rfl fun _ => id)
  · exact .refl ..

/-- An armed head at HALT entry passes its container (R66). -/
theorem CycleMove.armed_pass {q : Sequencer} (st : x.seq.state = .armed) (plan : q.plan = none) :
    CycleMove c s h x { q with state := .pass } where
  idle hi := by simp [st] at hi
  underWay hu := by cases hu
  plan p hp := by simp [plan] at hp
  count _ p hp := by simp [plan] at hp
  outcome := .inr fun _ _ ha => absurd st ha

theorem Head.haltEntry_move : HeadMove c s h x (x.haltEntry s.now s.cfg) := by
  unfold Head.haltEntry
  split
  case h_6 st => exact Head.startSnift_move st rfl rfl rfl
  case h_7 st => exact .enter _ .pass (.armed_pass st rfl)
  case h_1 st | h_2 st | h_3 st | h_4 st | h_5 st => exact Head.endWith_move _ (by rw [st]; decide)
  all_goals exact .refl ..

/-- The end of the snift (R60). -/
theorem Head.discharge_move (st : x.seq.state = .snift) :
    HeadMove c s h x (({ x with seq := { x.seq with sniftTimer := none } }).enter s.now s.cfg .discharge) :=
  .enter _ .discharge (.along st (by decide) rfl rfl fun _ => id)

/-- What a release before its time marks in SETTLE (R61). -/
theorem Head.releasedInSettle_move :
    HeadMove c s h x (settleEnd
      { x with seq := { x.seq with sniftAngle := true, sniftShort := true, shortSettle := true } }) := by
  obtain ⟨o, lead, shape, kept, bound⟩ := settleEnd_shape
    { x with seq := { x.seq with sniftAngle := true, sniftShort := true, shortSettle := true } }
  rw [shape]
  exact .stays _ (.of_leadsTo rfl rfl (.inl rfl) rfl rfl kept) (.of_lead bound) rfl rfl rfl

/-! ### The ends and the starts of cycles -/

theorem Head.toIdle_move (ends : EndsCycles c) : HeadMove c s h x (x.toIdle s.now s.cfg) :=
  .enter seqReset .idle
    { idle := fun _ => .inl rfl
      underWay := fun hu => by cases hu
      plan := fun _ hp => by cases hp
      count := fun _ _ hp => by cases hp
      outcome := .inl ends }

/-- A cycle that begins with a container passing unfilled (R43). -/
theorem CycleMove.pass {q : Sequencer} (ends : EndsCycles c) (hn : h.val < s.cfg.n) (state : q.state = .pass)
    (plan : q.plan = none) : CycleMove c s h x q where
  idle _ := .inr hn
  underWay hu := by rw [state] at hu; cases hu
  plan _ hp := by rw [plan] at hp; cases hp
  count _ _ hp := by rw [plan] at hp; cases hp
  outcome := .inl ends

/-- The thresholds of a plan meet the range of the fill counter (R83). -/
theorem formPlan_close_range {e : HeadRecord} {t : Nat} {slot : Slot} {r : Recipe} {p : Plan}
    (hp : formPlan slot r e t = some p) : 1 ≤ p.pClose ∧ p.pClose ≤ 65535 := by
  have target := formPlan_target_le hp
  unfold formPlan at hp
  simp only [] at hp
  split at hp
  · cases hp
  · cases hp
    simp only [closeThreshold_eq_max] at target ⊢
    omega

/-- A cycle that begins with a plan (R42). -/
theorem CycleMove.arm {q : Sequencer} (ends : EndsCycles c) (hn : h.val < s.cfg.n) (hm : s.mode = .production)
    {slot : Slot} {r : Recipe} (hr : s.recipes[slot.val] = some r) {p : Plan}
    (hp : formPlan slot r x.entry s.cfg.t = some p) (plan : q.plan = some p) (count : q.fillCount = 0) :
    CycleMove c s h x { q with state := .armed } where
  idle _ := .inr hn
  underWay _ := .inr hm
  plan _ hq := by cases plan.symm.trans hq; exact .inr ⟨slot, r, hr, hp⟩
  count _ _ hq := by
    cases plan.symm.trans hq
    have range := formPlan_close_range hp
    have zero : q.fillCount.toNat = 0 := by rw [count]; rfl
    exact ⟨range, zero.trans_le (Nat.zero_le _), fun _ => zero.trans_lt range.1, fun _ => count⟩
  outcome := .inl ends

/-! ### Changes of the head's record -/

theorem EntryMove.of_counts {k : TuningBlock} {e e' : HeadRecord} (service : e'.service = e.service) (q : e'.q = e.q)
    (trim : e'.trim = e.trim) (epoch : e'.epoch = e.epoch) (l16 : e'.l16 = e.l16) (faults : e'.faults = e.faults)
    (history : e'.history.length ≤ 8 ∨ e'.history = e.history) : EntryMove c k e e' where
  trim := trim ▸ id
  factor := q ▸ id
  lead := l16 ▸ id
  history short := history.elim id (· ▸ short)
  service _ := service ▸ faults ▸ id
  epoch := .inr ⟨by rw [calibration, calibration, q, trim], epoch⟩

/-- A change of the service state alone, which leaves a head in service where it was. -/
theorem EntryMove.of_service {k : TuningBlock} {e : HeadRecord} {sv : Service}
    (stays : sv = .inService → e.service = .inService) : EntryMove c k e { e with service := sv } :=
  ⟨id, id, id, id, fun _ below hs => below (stays hs), .inr ⟨rfl, rfl⟩⟩

/-- A head that comes out of a record in service has a fault count below the threshold (R98). -/
theorem faults_lt_of_serviceAfter {o : FillOutcome} {threshold faults : Nat} {sv : Service}
    (h : serviceAfter o threshold faults sv = .inService) : faults < threshold := by
  by_cases ho : o = .valve
  · rw [ho, serviceAfter_of_valve, valveBlock_eq] at h
    split at h <;> cases h
  · rw [serviceAfter_of_ne_valve ho, thresholdBlock_eq] at h
    split at h
    · cases h
    · rename_i not
      exact Nat.lt_of_not_le fun hle => not ⟨h, hle⟩

theorem HeadRecord.recorded_move (o : FillOutcome) (k : TuningBlock) (e : HeadRecord) :
    EntryMove c k e (e.recorded o k.blockThreshold) :=
  ⟨id, id, id, fun _ => List.length_take_le 8 _, fun _ _ => faults_lt_of_serviceAfter, .inr ⟨rfl, rfl⟩⟩

theorem HeadRecord.valveBlocked_move (k : TuningBlock) (e : HeadRecord) :
    EntryMove c k e { e with service := valveBlock e.service } :=
  .of_service fun hs => by
    rw [valveBlock_eq] at hs
    split at hs <;> cases hs

theorem HeadRecord.released_move (k : TuningBlock) (e : HeadRecord) : EntryMove c k e e.released := by
  rw [HeadRecord.released_eq]
  split
  · exact .refl ..
  · exact ⟨id, id, id, id, fun threshold _ _ => threshold, .inr ⟨rfl, rfl⟩⟩

theorem clampTrim_natAbs_le (m : Nat) (x : Int) : (clampTrim m x).natAbs ≤ m := by
  rw [clampTrim_eq]
  omega

/-- A new calibration, its trim within the limit and its factor in range. -/
theorem EntryMove.of_calibration {k : TuningBlock} {e e' : HeadRecord} (writes : Calibrates c)
    (trim : e'.trim = e.trim ∨ e'.trim.natAbs ≤ k.trimLimit)
    (factor : e'.q = e.q ∨ 2000 ≤ e'.q ∧ e'.q ≤ 100000) (service : e'.service = e.service) (l16 : e'.l16 = e.l16)
    (faults : e'.faults = e.faults) (history : e'.history = e.history) : EntryMove c k e e' where
  trim bound := trim.elim (· ▸ bound) id
  factor range := factor.elim (· ▸ range) id
  lead := l16 ▸ id
  history := history ▸ id
  service _ := service ▸ faults ▸ id
  epoch := .inl writes

theorem HeadRecord.reported_move (writes : Calibrates c) (cl : Classification) (d : RecordDraft) (deviation : Int)
    (gain : Nat) (k : TuningBlock) (e : HeadRecord) :
    EntryMove c k e (e.reported cl d deviation gain k.trimLimit) := by
  refine .of_calibration writes ?_ (.inl rfl) rfl rfl rfl rfl
  unfold HeadRecord.reported
  simp only []
  split
  · exact .inr (clampTrim_natAbs_le _ _)
  · exact .inl rfl

end Sys2Proof.Machine
end

section
/-! ## Every shared operation is a run of moves -/

namespace Sys2Proof.Machine

variable {c : Instr} {s : State}

/-! ### Heads and ports -/

theorem State.updHead_eq_mapHeads (s : State) (h : HeadId) (f : Head → Head) :
    s.updHead h f = s.mapHeads fun i x => if i = h then f x else x := by
  have heads : (s.updHead h f).heads = (s.mapHeads fun i x => if i = h then f x else x).heads := by
    refine State.heads_ext fun i => ?_
    rw [State.head_updHead, State.head_mapHeads]
    by_cases hi : h = i
    · simp [hi]
    · simp [hi, Ne.symm hi]
  rw [State.updHead] at heads ⊢
  rw [State.mapHeads] at heads ⊢
  exact congrArg (fun v => { s with heads := v }) heads

theorem Run.updHead {h : HeadId} {f : Head → Head} (hf : HeadMove c s h (s.head h) (f (s.head h))) :
    Run c 0 s (s.updHead h f) := by
  rw [State.updHead_eq_mapHeads]
  refine (Move.heads _ fun i => ?_).run
  split
  · rename_i hi
    subst hi
    exact hf
  · exact .refl ..

theorem Run.updEntry {h : HeadId} {f : HeadRecord → HeadRecord}
    (hf : EntryMove c s.tuning (s.head h).entry (f (s.head h).entry)) : Run c 0 s (s.updEntry h f) :=
  .updHead (.of_entry _ hf)

theorem Run.mapBelow {f : Head → Head} (hf : ∀ h x, HeadMove c s h x (f x)) : Run c 0 s (s.mapBelow f) := by
  refine (Move.heads _ fun i => ?_).run
  split
  · exact hf ..
  · exact .refl ..

theorem EventKind.own (p : Port) (k : EventKind) (kept : keepsKind p k = true) : k.bit &&& ~~~keptBits p = 0 := by
  cases p <;> cases k <;> first | rfl | cases kept

theorem or_and_eq_zero {w : Nat} {a b m : BitVec w} (ha : a &&& m = 0) (hb : b &&& m = 0) : (a ||| b) &&& m = 0 := by
  ext i hi
  have bitA : (a &&& m)[i] = (0 : BitVec w)[i] := by rw [ha]
  have bitB : (b &&& m)[i] = (0 : BitVec w)[i] := by rw [hb]
  simp only [BitVec.getElem_and, BitVec.getElem_or] at bitA bitB ⊢
  rw [Bool.and_or_distrib_right, bitA, bitB, Bool.or_self]

theorem PortState.take_move {p : Port} {k : EventKind} (kept : keepsKind p k = true) (now : Nat) (x : PortState) :
    PortMove p x (x.take now k) :=
  ⟨id, fun own => ⟨or_and_eq_zero own.1 (k.own p kept), own.2⟩⟩

theorem Run.raiseOn (p : Port) (k : EventKind) : Run c 0 s (s.raiseOn p k) := by
  unfold State.raiseOn
  split
  · rename_i kept
    exact (Move.port p _ (PortState.take_move kept _ _)).run
  · exact .refl ..

theorem Run.raise (k : EventKind) : Run c 0 s (s.raise k) := (Run.raiseOn .line k).then (.raiseOn .inspection k)

theorem Run.raiseWhen (b : Bool) (k : EventKind) : Run c 0 s (s.raiseWhen b k) := by
  cases b
  · exact .refl ..
  · exact .raise k

theorem PortState.answered_move (p : Port) (r : Response) (x : PortState) :
    PortMove p x { x with slot := none, buffer := some r } :=
  ⟨fun _ busy => absurd busy Bool.false_ne_true, id⟩

theorem Run.finish (p : Port) (r : Response) : Run c 0 s (s.finish p r) :=
  (Move.port p _ (PortState.answered_move p r _)).run

/-- A completion is what its block serves, and its answer. -/
theorem Run.complete {b : Nat} {p : Port} {r : Request} {lengths : List Nat}
    {serve : List Byte → State → Response × State}
    (served : ∀ ops, s.holds p r ops → Run c b s (serve ops s).2) : Run c b s (s.complete p r lengths serve) := by
  rcases s.complete_cases p r lengths serve with h | ⟨ops, held, ⟨-, h⟩ | ⟨-, h⟩⟩ <;> rw [h]
  · exact .refl ..
  · exact (Run.finish ..).mono (Nat.zero_le b)
  · exact (served ops held).then (.finish ..)

/-- A completion that reports state and changes none. -/
theorem Run.complete_of_same {p : Port} {r : Request} {lengths : List Nat}
    {serve : List Byte → State → Response × State} (same : ∀ ops, (serve ops s).2 = s) :
    Run c 0 s (s.complete p r lengths serve) :=
  .complete fun ops _ => .of_eq (same ops)

/-! ### Mode changes and faults -/

theorem Run.setMode {m : Mode}
    (stopped : StoppedInSetupAndHalt s → m = .setup ∨ m = .halt → ∀ h, (s.head h).seq.state.underWay = false) :
    Run c 0 s (s.setMode m) :=
  (Move.mode m stopped).run.then (.raise _)

theorem FillState.underWay_drains {st : FillState} (h : st.drains = false) : st.underWay = false := by
  cases st <;> first | rfl | cases h

theorem Run.drainCheck : Run c 0 s s.drainCheck := by
  rcases s.drainCheck_cases with h | ⟨-, drained, h⟩ <;> rw [h]
  · exact .refl ..
  · exact .setMode fun _ _ h => FillState.underWay_drains (drained h)

/-- HALT entry leaves no fill under way (R66). -/
theorem Head.haltEntry_underWay (now : Nat) (cfg : ConfigBlock) (x : Head) :
    (x.haltEntry now cfg).seq.state.underWay = false := by
  unfold Head.haltEntry
  split <;> first | rfl | simp [*, FillState.underWay]

theorem Run.enterHalt : Run c 0 s s.enterHalt := by
  rcases s.enterHalt_cases with ⟨-, h⟩ | ⟨-, h⟩ <;> rw [h]
  · exact .refl ..
  · refine (Run.mapBelow fun h x => Head.haltEntry_move).then (.setMode fun stopped _ h => ?_)
    by_cases hn : h.val < s.cfg.n
    · rw [State.head_mapBelow, if_pos hn]
      exact Head.haltEntry_underWay _ _ _
    · rw [stopped.2 h (by simpa using hn)]
      rfl

/-- A tracker with the same angle, debt and motion. -/
theorem TrackerInRange.of_same {k : Tracker} (angle : k.angle = s.tracker.angle) (debt : k.debt = s.tracker.debt)
    (motion : k.motion = s.tracker.motion) (h : TrackerInRange s) : TrackerInRange { s with tracker := k } := by
  obtain ⟨range, below, limit, reversing⟩ := h
  exact ⟨range, angle ▸ below, debt ▸ limit, motion ▸ debt ▸ reversing⟩

theorem Run.tracker_of_same {k : Tracker} (angle : k.angle = s.tracker.angle) (debt : k.debt = s.tracker.debt)
    (motion : k.motion = s.tracker.motion) : Run c 0 s { s with tracker := k } :=
  (Move.tracker k (.of_same angle debt motion)).run

theorem Run.angleFault : Run c 0 s s.angleFault := by
  rcases s.angleFault_cases with ⟨-, h⟩ | ⟨-, h⟩ <;> rw [h]
  · exact .refl ..
  · refine .then (.then ?_ (.raise _)) .enterHalt
    exact .tracker_of_same rfl rfl rfl

/-! ### Records -/

theorem Run.enqueue (d : RecordDraft) : Run c 1 s (s.enqueue d) := by
  rw [State.enqueue_eq_raiseWhen]
  exact (((Move.record d).run.then (.raiseWhen ..)).then (.raiseWhen ..)).then (.raiseWhen ..)

theorem Run.raiseIfBlocked (before after : Service) : Run c 0 s (s.raiseIfBlocked before after) := by
  unfold State.raiseIfBlocked
  split
  · exact .refl ..
  · exact .raise _

theorem State.head_enqueue (s : State) (d : RecordDraft) (h : HeadId) : (s.enqueue d).head h = s.head h := by
  rw [State.enqueue_eq]
  rfl

@[simp] theorem State.raiseIfBlocked_now (s : State) (before after : Service) :
    (s.raiseIfBlocked before after).now = s.now := by
  unfold State.raiseIfBlocked
  split <;> simp

@[simp] theorem State.raiseIfBlocked_cfg (s : State) (before after : Service) :
    (s.raiseIfBlocked before after).cfg = s.cfg := by
  unfold State.raiseIfBlocked
  split <;> simp

@[simp] theorem State.enqueue_now (s : State) (d : RecordDraft) : (s.enqueue d).now = s.now := by
  rw [State.enqueue_eq]

@[simp] theorem State.enqueue_cfg (s : State) (d : RecordDraft) : (s.enqueue d).cfg = s.cfg := by
  rw [State.enqueue_eq]

@[simp] theorem State.enqueue_tuning (s : State) (d : RecordDraft) : (s.enqueue d).tuning = s.tuning := by
  rw [State.enqueue_eq]

theorem Run.makeRecord (ends : EndsCycles c) (cleared : Bool) (h : HeadId) : Run c 1 s (s.makeRecord cleared h) := by
  rcases s.makeRecord_cases cleared h with ⟨-, made⟩ | ⟨d, -, made⟩ <;> rw [made]
  · exact (Run.updHead (Head.toIdle_move ends)).mono (Nat.zero_le 1)
  · refine .then (.then (.then (.enqueue d) (.updHead (.of_entry _ ?_))) (.raiseIfBlocked ..)) (.updHead ?_)
    · rw [State.head_enqueue, State.enqueue_tuning]
      exact HeadRecord.recorded_move ..
    · have now : ∀ t : State, t.now = s.now → t.cfg = s.cfg →
          HeadMove c t h (t.head h) ((t.head h).toIdle s.now s.cfg) := fun t hn hc => by
        rw [← hn, ← hc]
        exact Head.toIdle_move ends
      exact now _ (by simp) (by simp)

theorem Run.onRelease (ends : EndsCycles c) (h : HeadId) : Run c 1 s (s.onRelease h) := by
  unfold State.onRelease
  split
  · exact .makeRecord ends ..
  · exact .makeRecord ends ..
  · refine (Run.after (.updHead ?_) (.makeRecord ends ..)).then .drainCheck
    exact .of_seq _ (.of_leadsTo rfl rfl (.inl rfl) rfl rfl fun _ => id) rfl
  · exact (Run.after (.updHead Head.releasedInSettle_move) (.makeRecord ends ..)).then .drainCheck
  · exact .refl ..

end Sys2Proof.Machine
end

section
/-! ## What the events of one advance leave as it was -/

namespace Sys2Proof.Machine

/-- The part of the state that no event of a head's cycle changes. -/
structure CycleFrame (s t : State) : Prop where
  now : t.now = s.now
  encA : t.encA = s.encA
  encB : t.encB = s.encB
  infeed : t.infeed = s.infeed
  estop : t.estop = s.estop
  tracker : t.tracker = s.tracker
  recipes : t.recipes = s.recipes
  cfg : t.cfg = s.cfg
  tuning : t.tuning = s.tuning
  pending : t.pending = s.pending

variable (s : State)

theorem CycleFrame.refl : CycleFrame s s := ⟨rfl, rfl, rfl, rfl, rfl, rfl, rfl, rfl, rfl, rfl⟩

variable {s}

theorem CycleFrame.trans {t u : State} (f : CycleFrame s t) (g : CycleFrame t u) : CycleFrame s u :=
  ⟨g.now.trans f.now, g.encA.trans f.encA, g.encB.trans f.encB, g.infeed.trans f.infeed, g.estop.trans f.estop,
    g.tracker.trans f.tracker, g.recipes.trans f.recipes, g.cfg.trans f.cfg, g.tuning.trans f.tuning,
    g.pending.trans f.pending⟩

variable (s)

theorem CycleFrame.updHead (h : HeadId) (f : Head → Head) : CycleFrame s (s.updHead h f) :=
  ⟨rfl, rfl, rfl, rfl, rfl, rfl, rfl, rfl, rfl, rfl⟩

theorem CycleFrame.raise (k : EventKind) : CycleFrame s (s.raise k) :=
  ⟨s.raise_now k, s.raise_encA k, s.raise_encB k, s.raise_infeed k, s.raise_estop k, s.raise_tracker k,
    s.raise_recipes k, s.raise_cfg k, s.raise_tuning k, s.raise_pending k⟩

theorem CycleFrame.setMode (m : Mode) : CycleFrame s (s.setMode m) :=
  ⟨s.setMode_now m, s.setMode_encA m, s.setMode_encB m, s.setMode_infeed m, s.setMode_estop m, s.setMode_tracker m,
    s.setMode_recipes m, s.setMode_cfg m, s.setMode_tuning m, s.setMode_pending m⟩

theorem CycleFrame.enqueue (d : RecordDraft) : CycleFrame s (s.enqueue d) := by
  rw [State.enqueue_eq]
  exact ⟨rfl, rfl, rfl, rfl, rfl, rfl, rfl, rfl, rfl, rfl⟩

theorem CycleFrame.raiseIfBlocked (before after : Service) : CycleFrame s (s.raiseIfBlocked before after) := by
  unfold State.raiseIfBlocked
  split
  · exact .refl s
  · exact .raise s _

theorem CycleFrame.drainCheck : CycleFrame s s.drainCheck := by
  rcases s.drainCheck_cases with h | ⟨-, -, h⟩ <;> rw [h]
  · exact .refl s
  · exact .setMode s _

theorem CycleFrame.makeRecord (cleared : Bool) (h : HeadId) : CycleFrame s (s.makeRecord cleared h) := by
  rcases s.makeRecord_cases cleared h with ⟨-, made⟩ | ⟨d, -, made⟩ <;> rw [made]
  · exact .updHead ..
  · exact (((CycleFrame.enqueue s d).trans (.updHead ..)).trans (.raiseIfBlocked ..)).trans (.updHead ..)

theorem CycleFrame.onRelease (h : HeadId) : CycleFrame s (s.onRelease h) := by
  unfold State.onRelease
  split
  · exact .makeRecord ..
  · exact .makeRecord ..
  · exact ((CycleFrame.updHead ..).trans (.makeRecord ..)).trans (.drainCheck _)
  · exact ((CycleFrame.updHead ..).trans (.makeRecord ..)).trans (.drainCheck _)
  · exact .refl s

theorem CycleFrame.takeTop : CycleFrame s s.takeTop := by
  unfold State.takeTop
  simp only []
  split
  · refine .trans ?_ (.raise _ _)
    exact ⟨rfl, rfl, rfl, rfl, rfl, rfl, rfl, rfl, rfl, rfl⟩
  · exact ⟨rfl, rfl, rfl, rfl, rfl, rfl, rfl, rfl, rfl, rfl⟩

theorem CycleFrame.dripCheck (h : HeadId) : CycleFrame s (s.dripCheck h) := by
  unfold State.dripCheck
  simp only []
  split
  · exact (CycleFrame.updHead ..).trans (.raise ..)
  · exact .updHead ..

theorem CycleFrame.passEntry (why : NotFilledReason) (h : HeadId) : CycleFrame s (s.passEntry why h) := by
  unfold State.passEntry
  split
  · exact .refl s
  · exact .updHead ..

theorem CycleFrame.fillStart (h : HeadId) : CycleFrame s (s.fillStart h) := by
  cases top : s.topRecipe with
  | none =>
    simp only [State.fillStart, top]
    exact .refl s
  | some sr =>
    rw [s.fillStart_of_top h top]
    exact (CycleFrame.takeTop s).trans (.updHead ..)

/-- What an IDLE head does at its infeed: it counts an empty pocket, lets a container pass, or, in service in
PRODUCTION, starts a fill (R40, R41). -/
theorem State.infeedDecision_cases (h : HeadId) :
    s.infeedDecision h = s.updHead h (fun x =>
      { x with entry := { x.entry with
          stats := { x.entry.stats with emptyPockets := satInc x.entry.stats.emptyPockets } } }) ∨
    (∃ why, s.infeedDecision h = s.passEntry why h) ∨
    s.mode = .production ∧ (s.head h).entry.service = .inService ∧ s.infeedDecision h = s.fillStart h := by
  cases hi : s.infeed with
  | false => exact .inl (s.infeedDecision_of_absent h hi)
  | true =>
    by_cases hv : (s.head h).entry.service = .inService
    · obtain ⟨production, drain, halt, setup⟩ := s.infeedDecision_of_in_service h hi hv
      cases hm : s.mode with
      | production => exact .inr (.inr ⟨rfl, hv, production hm⟩)
      | drain => exact .inr (.inl ⟨_, drain hm⟩)
      | halt => exact .inr (.inl ⟨_, halt hm⟩)
      | setup => exact .inr (.inl ⟨_, setup hm⟩)
    · exact .inr (.inl ⟨_, s.infeedDecision_of_out_of_service h hi hv⟩)

theorem CycleFrame.infeedDecision (h : HeadId) : CycleFrame s (s.infeedDecision h) := by
  rcases s.infeedDecision_cases h with e | ⟨why, e⟩ | ⟨-, -, e⟩ <;> rw [e]
  · exact .updHead ..
  · exact .passEntry ..
  · exact .fillStart ..

theorem CycleFrame.onInfeed (h : HeadId) : CycleFrame s (s.onInfeed h) := by
  unfold State.onInfeed
  simp only []
  split
  · exact (CycleFrame.dripCheck s h).trans (.infeedDecision ..)
  · exact .dripCheck s h

theorem CycleFrame.onBoundary (h : HeadId) (b : Boundary) : CycleFrame s (s.onBoundary h b) := by
  cases b with
  | infeed => exact .onInfeed s h
  | release => exact .onRelease s h
  | press | fill | close | snift => exact .updHead ..

theorem CycleFrame.deliverBoundaries : CycleFrame s s.deliverBoundaries :=
  s.eachInSomeOrder_keeps (CycleFrame s) Prod.fst s.reached _ (fun hb _ x f => f.trans (.onBoundary x hb.1 hb.2))
    fun _ => ⟨rfl, rfl, rfl, rfl, rfl, rfl, rfl, rfl, rfl, rfl⟩

end Sys2Proof.Machine
end

section
/-! ## The events of one advance are a run of moves -/

namespace Sys2Proof.Machine

variable {c : Instr} {s : State}

/-! ### The local-0 event -/

theorem Run.dripCheck (h : HeadId) : Run c 0 s (s.dripCheck h) := by
  unfold State.dripCheck
  simp only []
  split
  · refine .then (.updHead (.stays _ (.refl ..) ?_ rfl rfl rfl)) (.raise _)
    exact .of_counts rfl rfl rfl rfl rfl rfl (.inr rfl)
  · exact .updHead (.of_iface _ rfl rfl rfl rfl)

/-- Taking the top changes its count, or pops it where something is below it (R129). -/
theorem takeEntries_cases (top : StackEntry) (below : List StackEntry) :
    (∃ count, takeEntries (top :: below) = ⟨top.slot, count⟩ :: below) ∨
    takeEntries (top :: below) = [⟨top.slot, none⟩] ∨ below ≠ [] ∧ takeEntries (top :: below) = below := by
  cases hc : top.count with
  | none => exact .inl ⟨none, by rw [(takeEntries_of_no_count below hc).1, ← hc]⟩
  | some n =>
    simp only [takeEntries, hc]
    split
    · exact .inl ⟨_, rfl⟩
    · split
      · exact .inr (.inl rfl)
      · exact .inr (.inr ⟨‹_›, rfl⟩)

/-- Taking the top of a stack leaves one entry or more, no more than there were, and none on a new slot. -/
theorem takeEntries_bounds {l : List StackEntry} (h : l ≠ []) :
    takeEntries l ≠ [] ∧ (takeEntries l).length ≤ l.length ∧ ∀ e ∈ takeEntries l, ∃ e' ∈ l, e'.slot = e.slot := by
  obtain ⟨top, below, rfl⟩ := List.exists_cons_of_ne_nil h
  rcases takeEntries_cases top below with ⟨count, taken⟩ | taken | ⟨some, taken⟩ <;> rw [taken]
  · refine ⟨by simp, by simp, fun e he => ?_⟩
    rcases List.mem_cons.mp he with rfl | he
    · exact ⟨top, List.mem_cons_self, rfl⟩
    · exact ⟨e, List.mem_cons_of_mem _ he, rfl⟩
  · refine ⟨by simp, by simp, fun e he => ⟨top, List.mem_cons_self, ?_⟩⟩
    rw [List.mem_singleton.mp he]
  · exact ⟨some, by simp, fun e he => ⟨e, List.mem_cons_of_mem _ he, rfl⟩⟩

theorem Run.takeTop : Run c 0 s s.takeTop := by
  have taken : Run c 0 s { s with stack := { s.stack with entries := takeEntries s.stack.entries } } := by
    refine (Move.stack _ fun sound => ?_).run
    obtain ⟨depth, one, most, slots⟩ := sound
    obtain ⟨some, le, old⟩ := takeEntries_bounds (List.length_pos_iff.mp one)
    refine ⟨depth, List.length_pos_iff.mpr some, le.trans most, fun e he => ?_⟩
    obtain ⟨e', he', same⟩ := old e he
    simpa only [same] using slots e' he'
  unfold State.takeTop
  simp only []
  split
  · exact taken.then (.raise _)
  · exact taken

/-- The entry on top names a slot that holds its recipe. -/
theorem State.topRecipe_slot {slot : Slot} {r : Recipe} (top : s.topRecipe = some (slot, r)) :
    s.recipes[slot.val] = some r := by
  unfold State.topRecipe at top
  split at top
  · cases top
  · simp only [Option.map_eq_some_iff, Prod.mk.injEq] at top
    obtain ⟨r', hr, rfl, rfl⟩ := top
    exact hr

theorem Run.passEntry (ends : EndsCycles c) {h : HeadId} (hn : h.val < s.cfg.n) (why : NotFilledReason) :
    Run c 0 s (s.passEntry why h) := by
  unfold State.passEntry
  split
  · exact .refl ..
  · exact .updHead (.enters _ _ .pass (.pass ends hn rfl rfl) (.refl ..))

@[simp] theorem State.takeTop_mode (s : State) : s.takeTop.mode = s.mode := by
  unfold State.takeTop
  simp only []
  split <;> simp

theorem Head.started_move (ends : EndsCycles c) {h : HeadId} {x : Head} (hn : h.val < s.cfg.n)
    (hm : s.mode = .production) {slot : Slot} {r : Recipe} (hr : s.recipes[slot.val] = some r) :
    HeadMove c s h x (x.started s.now s.cfg slot r) := by
  unfold Head.started
  simp only []
  split
  · rename_i p hp
    exact .enters _ _ .armed (.arm ends hn hm hr hp rfl rfl) (.of_counts rfl rfl rfl rfl rfl rfl (.inr rfl))
  · exact .enters _ _ .pass (.pass ends hn rfl rfl) (.of_counts rfl rfl rfl rfl rfl rfl (.inr rfl))

theorem Run.fillStart (ends : EndsCycles c) {h : HeadId} (hn : h.val < s.cfg.n) (hm : s.mode = .production) :
    Run c 0 s (s.fillStart h) := by
  cases top : s.topRecipe with
  | none =>
    simp only [State.fillStart, top]
    exact .refl ..
  | some sr =>
    have frame := CycleFrame.takeTop s
    rw [s.fillStart_of_top h top]
    refine Run.takeTop.then (.updHead ?_)
    rw [← frame.now, ← frame.cfg]
    refine Head.started_move ends (frame.cfg ▸ hn) (s.takeTop_mode.trans hm) ?_
    simpa only [frame.recipes] using State.topRecipe_slot top

theorem Run.infeedDecision (ends : EndsCycles c) {h : HeadId} (hn : h.val < s.cfg.n) :
    Run c 0 s (s.infeedDecision h) := by
  rcases s.infeedDecision_cases h with e | ⟨why, e⟩ | ⟨hm, -, e⟩ <;> rw [e]
  · exact .updHead (.of_entry _ (.of_counts rfl rfl rfl rfl rfl rfl (.inr rfl)))
  · exact .passEntry ends hn why
  · exact .fillStart ends hn hm

theorem Run.onInfeed (ends : EndsCycles c) {h : HeadId} (hn : h.val < s.cfg.n) : Run c 0 s (s.onInfeed h) := by
  unfold State.onInfeed
  simp only []
  split
  · exact (Run.dripCheck h).then (.infeedDecision ends ((CycleFrame.dripCheck s h).cfg ▸ hn))
  · exact .dripCheck h

/-! ### The boundaries of an advance -/

theorem Run.onBoundary (ends : EndsCycles c) {h : HeadId} (hn : h.val < s.cfg.n) (b : Boundary) :
    Run c 1 s (s.onBoundary h b) := by
  cases b with
  | release => exact .onRelease ends h
  | infeed => exact (Run.onInfeed ends hn).mono (Nat.zero_le 1)
  | press => exact (Run.updHead Head.onPress_move).mono (Nat.zero_le 1)
  | fill => exact (Run.updHead Head.onFill_move).mono (Nat.zero_le 1)
  | close => exact (Run.updHead Head.onClose_move).mono (Nat.zero_le 1)
  | snift => exact (Run.updHead Head.onSnift_move).mono (Nat.zero_le 1)

/-- A fold of events, each of which makes at most one record, from every state with the same frame. -/
theorem Run.foldl {α : Type} {f : α → State → State} {l : List α}
    (each : ∀ a ∈ l, ∀ x, CycleFrame s x → Run c 1 x (f a x) ∧ CycleFrame x (f a x)) {t : State}
    (frame : CycleFrame s t) : Run c l.length t (l.foldl (fun x a => f a x) t) := by
  induction l generalizing t with
  | nil => exact .refl ..
  | cons a l ih =>
    obtain ⟨first, framed⟩ := each a List.mem_cons_self t frame
    rw [List.length_cons, Nat.add_comm]
    exact first.trans (ih (fun b hb => each b (List.mem_cons_of_mem a hb)) (frame.trans framed))

theorem Run.eachInSomeOrder {α : Type} {head : α → HeadId} {l : List α} {f : α → State → State}
    (each : ∀ a ∈ l, ∀ x, CycleFrame s x → Run c 1 x (f a x) ∧ CycleFrame x (f a x)) :
    Run c l.length s (s.eachInSomeOrder head l f) := by
  obtain ⟨l', n, perm, e⟩ := s.eachInSomeOrder_eq head l f
  have start : CycleFrame s { s with choices := n } := ⟨rfl, rfl, rfl, rfl, rfl, rfl, rfl, rfl, rfl, rfl⟩
  have chosen : Run c 0 s { s with choices := n } := (Move.counts s.reportErrors n).run
  rw [e, ← perm.length_eq]
  exact chosen.after (.foldl (fun a ha => each a (perm.mem_iff.mp ha)) start)

theorem boundariesAt_length_le (q : Sequencer) (a : Nat) : (boundariesAt q a).length ≤ 6 := by
  unfold boundariesAt
  repeat' split
  all_goals simp

/-- An advance reaches at most six boundaries of each head. -/
theorem State.reached_length_le (s : State) : s.reached.length ≤ 768 := by
  unfold State.reached
  rw [List.length_flatMap]
  refine (List.sum_le_card_nsmul _ 6 fun n hn => ?_).trans (by simp)
  obtain ⟨h, -, rfl⟩ := List.mem_map.mp hn
  split
  · rw [List.length_map]
    exact boundariesAt_length_le _ _
  · exact Nat.zero_le 6

theorem Run.deliverBoundaries (ends : EndsCycles c) : Run c 768 s s.deliverBoundaries := by
  refine (Run.eachInSomeOrder fun hb mem x frame => ?_).mono s.reached_length_le
  have hn : hb.1.val < s.cfg.n := ((s.mem_reached_iff hb.1 hb.2).mp mem).1
  exact ⟨.onBoundary ends (frame.cfg ▸ hn) hb.2, .onBoundary x hb.1 hb.2⟩

end Sys2Proof.Machine
end

section
/-! ## The turret's events are runs of moves -/

namespace Sys2Proof.Machine

variable {c : Instr} {s : State}

theorem Run.leaveRunning {m : Motion} (hm : TrackerInRange s → (m = .reversing ↔ 0 < s.tracker.debt)) :
    Run c 0 s (s.leaveRunning m) := by
  refine Run.then (Move.tracker _ fun range => ?_).run (.mapBelow fun h x => Head.motionLeave_move)
  obtain ⟨turn, angle, limit, -⟩ := id range
  exact ⟨turn, angle, limit, hm range⟩

theorem Run.reverseCount : Run c 0 s s.reverseCount := by
  unfold State.reverseCount
  split
  · rename_i room
    have reversed {k : Tracker} (angle : k.angle = s.tracker.angle) (debt : k.debt = s.tracker.debt + 1)
        (motion : k.motion = .reversing) (range : TrackerInRange s) : TrackerInRange { s with tracker := k } := by
      obtain ⟨turn, below, -, -⟩ := range
      exact ⟨turn, angle ▸ below, debt ▸ room, fun _ => debt ▸ Nat.succ_pos _, fun _ => motion⟩
    simp only []
    split
    · refine Run.then (Move.tracker _ ?_).run (.mapBelow fun h x => Head.motionLeave_move)
      exact reversed rfl rfl rfl
    all_goals
      refine (Move.tracker _ ?_).run
      exact reversed rfl rfl rfl
  · exact .angleFault

theorem Run.payDebt (debt : 0 < s.tracker.debt) : Run c 0 s s.payDebt := by
  unfold State.payDebt
  split
  · refine (Move.tracker _ fun range => ?_).run
    obtain ⟨turn, angle, -, -⟩ := range
    exact ⟨turn, angle, Nat.zero_le _, nofun, nofun⟩
  · rename_i more
    refine (Move.tracker _ fun range => ?_).run
    obtain ⟨turn, angle, limit, reversing⟩ := range
    exact ⟨turn, angle, (Nat.sub_le _ _).trans limit, fun _ => Nat.sub_pos_of_lt (by omega), fun _ => reversing.mpr debt⟩

theorem Run.advanceMotion : Run c 0 s s.advanceMotion := by
  unfold State.advanceMotion
  split
  · rename_i stopped
    refine Run.then (Move.tracker _ fun range => ?_).run (.mapBelow fun h x => Head.firstAdvance_move)
    obtain ⟨turn, angle, limit, reversing⟩ := range
    refine ⟨turn, angle, limit, nofun, fun debt => ?_⟩
    have := stopped.symm.trans (reversing.mpr debt)
    cases this
  · exact .tracker_of_same rfl rfl rfl
  · exact .tracker_of_same rfl rfl rfl

theorem Run.moveAngle : Run c 0 s s.moveAngle := by
  unfold State.moveAngle
  split
  · refine (Move.tracker _ fun range => ?_).run
    obtain ⟨turn, angle, limit, reversing⟩ := range
    exact ⟨turn, Nat.zero_lt_of_lt angle, limit, reversing⟩
  · rename_i inside
    refine (Move.tracker _ fun range => ?_).run
    obtain ⟨turn, angle, limit, reversing⟩ := range
    simp only [State.wraps, decide_eq_true_eq] at inside
    exact ⟨turn, Nat.lt_of_le_of_ne angle inside, limit, reversing⟩

theorem QueueMove.bringUp {q q' : TraceQueue} (m : QueueMove q q') : QueueMove q q'.bringUp :=
  ⟨m.held, m.created, m.serial, m.account⟩

/-- The records past the horizon leave the held list for the count of expired ones (R142, R145). -/
theorem TraceQueue.expire_move (turn : U32) (horizon : Nat) (q : TraceQueue) : QueueMove q (q.expire turn horizon) := by
  unfold TraceQueue.expire
  simp only []
  split
  · exact ⟨.refl _, rfl, .inl rfl, id⟩
  · refine .bringUp ⟨List.filter_sublist, rfl, .inl rfl, fun account => ?_⟩
    have parts : q.held.length = (q.held.filter fun r => !expiredAt turn horizon r).length +
        (q.held.length - (q.held.filter fun r => !expiredAt turn horizon r).length) := by
      have := List.length_filter_le (fun r => !expiredAt turn horizon r) q.held
      omega
    change q.created = BitVec.ofNat 32 _ + q.matched + (q.expired + BitVec.ofNat 32 _) + q.evicted + q.cleared + q.lost
    rw [account, congrArg (BitVec.ofNat 32) parts, BitVec.ofNat_add]
    ac_rfl

theorem Run.expireTraces : Run c 0 s s.expireTraces := (Move.queue _ (TraceQueue.expire_move ..)).run

theorem Run.speedStep : Run c 0 s s.speedStep := by
  unfold State.speedStep
  split
  · exact .tracker_of_same rfl rfl rfl
  · exact .tracker_of_same rfl rfl rfl

theorem Run.indexDeadline : Run c 0 s s.indexDeadline := by
  unfold State.indexDeadline
  split
  · split
    · exact .tracker_of_same rfl rfl rfl
    · exact .angleFault
  · exact .refl ..

theorem Run.advance (ends : EndsCycles c) : Run c 768 s s.advance := by
  have delivered : Run c 768 s s.advanceMotion.moveAngle.deliverBoundaries :=
    (Run.advanceMotion.then .moveAngle).after (.deliverBoundaries ends)
  unfold State.advance
  simp only []
  refine .then ?_ .indexDeadline
  split
  · exact (delivered.then .expireTraces).then .speedStep
  · exact delivered

theorem Run.forwardCount (ends : EndsCycles c) : Run c 768 s s.forwardCount := by
  unfold State.forwardCount
  split
  · exact (Run.payDebt ‹_›).mono (Nat.zero_le _)
  · exact .advance ends

theorem Run.reverseCounts (k : Nat) : Run c 0 s (reverseCounts k s) := by
  induction k generalizing s with
  | zero => exact .refl ..
  | succ k ih =>
    unfold Machine.reverseCounts
    split
    · exact Run.reverseCount.then ih
    · exact .reverseCount

theorem Run.forwardCounts (ends : EndsCycles c) (k : Nat) : Run c (768 * k) s (forwardCounts k s) := by
  induction k generalizing s with
  | zero => exact .refl ..
  | succ k ih =>
    rw [Nat.mul_succ, Nat.add_comm]
    exact (Run.forwardCount ends).trans ih

theorem Run.correct (ends : EndsCycles c) (e : Int) : Run c (768 * e.natAbs) s (s.correct e) := by
  unfold State.correct
  split
  · exact (Run.reverseCounts _).mono (Nat.zero_le _)
  · exact .forwardCounts ends _

theorem Run.indexCheck (ends : EndsCycles c) :
    Run c (768 * (indexError s.cfg.t s.tracker.angle).natAbs) s s.indexCheck := by
  unfold State.indexCheck
  simp only []
  split
  · refine .after ?_ (.correct ends _)
    exact .tracker_of_same rfl rfl rfl
  · split
    · refine .after ?_ (.correct ends _)
      exact .tracker_of_same rfl rfl rfl
    · exact Run.angleFault.mono (Nat.zero_le _)

theorem Run.indexArrival (ends : EndsCycles c) :
    Run c (768 * (indexError s.cfg.t s.tracker.angle).natAbs) s s.indexArrival := by
  unfold State.indexArrival
  split
  · exact .refl ..
  · split
    · exact .refl ..
    · rename_i noDebt
      refine (Move.tracker _ fun range => ?_).run.mono (Nat.zero_le _)
      obtain ⟨turn, angle, limit, reversing⟩ := range
      exact ⟨turn, Nat.zero_lt_of_lt angle, limit, reversing⟩
  · simp only []
    have marked : Run c 0 s { s with tracker := { s.tracker with indexMark := true } } := .tracker_of_same rfl rfl rfl
    split
    · exact marked.mono (Nat.zero_le _)
    · exact marked.after (.indexCheck (s := { s with tracker := { s.tracker with indexMark := true } }) ends)

/-- The index error of an angle in range is no more than the turn. -/
theorem indexError_natAbs_le {t a : Nat} (h : a < t) : (indexError t a).natAbs ≤ t := by
  unfold indexError
  split <;> omega

theorem Run.checkStop : Run c 0 s s.checkStop := by
  unfold State.checkStop
  split
  · rename_i running
    refine .leaveRunning fun range => ⟨nofun, fun debt => ?_⟩
    obtain ⟨-, -, -, reversing⟩ := range
    have := running.1.symm.trans (reversing.mpr debt)
    cases this
  · exact .refl ..

/-! ## The signals of one head are runs of moves -/

/-- Two moves of one head, one after the other. -/
theorem Run.updHead_comp {h : HeadId} {f g : Head → Head} (first : HeadMove c s h (s.head h) (f (s.head h)))
    (second : HeadMove c (s.updHead h f) h (f (s.head h)) (g (f (s.head h)))) :
    Run c 0 s (s.updHead h fun x => g (f x)) := by
  have composed : s.updHead h (fun x => g (f x)) = (s.updHead h f).updHead h g := (s.updHead_updHead h f g).symm
  rw [composed]
  exact (Run.updHead first).then (.updHead (by rwa [State.head_updHead_same]))

theorem Run.meterEdge (h : HeadId) : Run c 0 s (s.meterEdge h) := by
  unfold State.meterEdge
  split
  · split
    · exact .updHead_comp (g := fun x => x.acceptedPulse s.now s.cfg (s.localAngle h)) (.of_iface _ rfl rfl rfl rfl)
        (Head.acceptedPulse_move _)
    · exact .updHead (.of_iface _ rfl rfl rfl rfl)
  · exact .refl ..

theorem Run.psLevel (level : Bool) (h : HeadId) : Run c 0 s (s.psLevel level h) := by
  unfold State.psLevel
  split
  · exact .refl ..
  · refine .updHead (.of_iface _ rfl rfl ?_ ?_)
    all_goals
      simp only []
      split <;> rfl

/-- A burst ends a fill from PRESSURIZED through SETTLE in SNIFT. -/
theorem FillState.snifts_of_bursts {st : FillState} (h : st.bursts = true) : st.LeadsTo .snift := by
  have mem := (FillState.bursts_iff st).mp h
  simp only [List.mem_cons, List.not_mem_nil, or_false] at mem
  rcases mem with rfl | rfl | rfl | rfl | rfl <;> decide

theorem FillState.snifts_of_valveEnds {st : FillState} (h : st.valveEnds = true) : st.LeadsTo .snift := by
  have mem := (FillState.valveEnds_iff st).mp h
  simp only [List.mem_cons, List.not_mem_nil, or_false] at mem
  rcases mem with rfl | rfl | rfl | rfl | rfl | rfl <;> decide

theorem Run.markNeighbours (h : HeadId) : Run c 0 s (s.markNeighbours h) := by
  have mark (t : State) (j : HeadId) : Run c 0 t
      (t.updHead j fun y => { y with entry := y.entry.markSuspect s.tuning.suspectTurns }) :=
    .updHead (.of_entry _ (.of_counts rfl rfl rfl rfl rfl rfl (.inr rfl)))
  exact (mark s _).then (mark _ _)

theorem State.seq_markNeighbours (s : State) (h j : HeadId) : ((s.markNeighbours h).head j).seq = (s.head j).seq := by
  rw [State.head_markNeighbours]
  split <;> rfl

theorem Run.switchRelease (h : HeadId) : Run c 0 s (s.switchRelease h) := by
  unfold State.switchRelease
  split
  · rename_i bursts
    refine (Run.markNeighbours h).then (.updHead ?_)
    refine Head.endWith_move (s := s.markNeighbours h) .burst ?_
    rw [State.seq_markNeighbours]
    exact FillState.snifts_of_bursts bursts
  · exact .refl ..

theorem Run.valveBlockNow (h : HeadId) : Run c 0 s (s.valveBlockNow h) :=
  (Run.updHead (.of_entry _ (HeadRecord.valveBlocked_move ..))).then (.raiseIfBlocked ..)

theorem Run.readbackFault (h : HeadId) : Run c 0 s (s.readbackFault h) := by
  unfold State.readbackFault
  split
  · rename_i ends
    have cut : Run c 0 s (s.updHead h (Head.endWith s.now s.cfg .valve)) :=
      .updHead (Head.endWith_move .valve (FillState.snifts_of_valveEnds ends))
    simp only []
    split
    · exact cut
    · exact cut.then (.valveBlockNow h)
  · exact .valveBlockNow h

theorem Run.filterDone (h : HeadId) : Run c 0 s (s.filterDone h) := by
  unfold State.filterDone
  split
  · exact .refl ..
  · rename_i f _
    split
    · refine Run.then
        (t := s.updHead h fun x => { x with iface := { x.iface with pressure := f.candidate, filter := none } })
        (.updHead (.of_iface _ rfl rfl rfl rfl)) ?_
      split
      · exact .updHead Head.switchAssert_move
      · exact .switchRelease h
    · exact .refl ..

theorem Run.senseLevel (o : Output) (level : Bool) (h : HeadId) : Run c 0 s (s.senseLevel o level h) := by
  unfold State.senseLevel
  split
  · exact .refl ..
  · have sensed : Run c 0 s (s.updHead h fun x => { x with sense := x.sense.put o level }) :=
      .updHead (.of_iface _ rfl rfl rfl rfl)
    simp only []
    split
    · exact sensed.then (.readbackFault h)
    · exact sensed

theorem Run.sniftDone (h : HeadId) : Run c 0 s (s.sniftDone h) := by
  unfold State.sniftDone
  split
  · rename_i due
    exact (Run.updHead (Head.discharge_move due.1)).then .drainCheck
  · exact .refl ..

end Sys2Proof.Machine
end

section
/-! ## The requests are runs of moves -/

namespace Sys2Proof.Machine

variable {c : Instr} {s : State}

/-! ### The ports -/

/-- A change of a port that touches neither its slot and buffer nor its events and mask. -/
theorem PortMove.of_same {p : Port} {x y : PortState} (slot : y.slot = x.slot) (buffer : y.buffer = x.buffer)
    (events : y.events = x.events) (mask : y.mask = x.mask) : PortMove p x y := by
  refine ⟨fun h => ?_, fun h => ?_⟩
  · rwa [PortState.Exclusive, slot, buffer]
  · rwa [PortState.Own, events, mask]

theorem Run.openFrame (p : Port) : Run c 0 s (s.openFrame p) := by
  refine (Move.port p _ ?_).run
  split
  · exact .of_same rfl rfl rfl rfl
  · exact .of_same rfl rfl rfl rfl

theorem Run.endPulse (p : Port) : Run c 0 s (s.endPulse p) := by
  refine (Move.port p _ ?_).run
  split
  · exact .of_same rfl rfl rfl rfl
  · split
    · exact .of_same rfl rfl rfl rfl
    · exact .of_same rfl rfl rfl rfl

/-- A delivery may empty the buffer, and fills none (R190). -/
theorem PortState.closed_move (p : Port) (out : FrameOut) (count : Nat) (x : PortState) :
    PortMove p x { x.deliver out count with frame := none } := by
  unfold PortState.deliver
  split
  · split
    · exact ⟨fun _ _ => rfl, id⟩
    · exact .of_same rfl rfl rfl rfl
  · exact .of_same rfl rfl rfl rfl
  · exact .of_same rfl rfl rfl rfl

/-- A response placed in the buffer of a free port stands beside an idle slot. -/
theorem PortMove.of_free {p : Port} {x y : PortState} (slot : y.slot = x.slot)
    (buffer : x.free = true ∨ y.buffer = x.buffer) (events : y.events = x.events) (mask : y.mask = x.mask) :
    PortMove p x y := by
  refine ⟨fun h busy => ?_, fun h => ?_⟩
  · rw [slot] at busy
    rcases buffer with free | same
    · rw [((x.free_iff).mp free).1] at busy
      cases busy
    · rw [same, h busy]
  · rwa [PortState.Own, events, mask]

theorem PortState.frameError_move (p : Port) (x : PortState) : PortMove p x (x.frameError x.free) := by
  refine .of_free rfl ?_ rfl rfl
  cases free : x.free
  · exact .inr rfl
  · exact .inl rfl

theorem PortState.checkError_move (p : Port) (x : PortState) : PortMove p x (x.checkError x.free) := by
  refine .of_free rfl ?_ rfl rfl
  cases free : x.free
  · exact .inr rfl
  · exact .inl rfl

theorem PortState.acceptRequest_move (p : Port) (code : Byte) (operands : List Byte) {x : PortState}
    (free : x.free = true) : PortMove p x (x.acceptRequest p code operands) := by
  unfold PortState.acceptRequest
  split
  · exact .of_free rfl (.inl free) rfl rfl
  · split
    · exact ⟨fun _ _ => ((x.free_iff).mp free).2, id⟩
    · exact .of_free rfl (.inl free) rfl rfl

theorem Run.takeFrame (p : Port) (bytes : List Byte) : Run c 0 s (s.takeFrame p bytes) := by
  unfold State.takeFrame
  simp only []
  split
  · exact .refl ..
  · exact (Move.port p _ (PortState.frameError_move ..)).run.then (.raiseOn ..)
  · split
    · exact (Move.port p _ (PortState.checkError_move ..)).run.then (.raiseOn ..)
    · split
      · exact (Move.port p _ (PortState.acceptRequest_move _ _ _ ‹_›)).run
      · refine Run.then (Move.port p _ ?_).run (.raiseOn ..)
        exact .of_same rfl rfl rfl rfl

theorem Run.closeFrame (p : Port) (bytes : List Byte) : Run c 0 s (s.closeFrame p bytes) := by
  unfold State.closeFrame
  split
  · exact .refl ..
  · exact (Move.port p _ (PortState.closed_move ..)).run.then (.takeFrame ..)

theorem Run.serveEventsRead (p : Port) (ops : List Byte) : Run c 0 s (serveEventsRead p ops s).2 := by
  have read : Run c 0 s
      (s.updPort p fun x => { x with events := 0, checkErrors := 0, frameErrors := 0, collisions := 0 }) :=
    (Move.port p _ ⟨id, fun own => ⟨BitVec.zero_and, own.2⟩⟩).run
  cases p with
  | line => exact read
  | inspection => exact read.then (Move.counts 0 _).run

theorem and_and_not_self {w : Nat} (a b : BitVec w) : (a &&& b) &&& ~~~b = 0 := by
  ext i hi
  simp

theorem Run.serveEventsMask (p : Port) (ops : List Byte) : Run c 0 s (serveEventsMask p ops s).2 := by
  unfold Machine.serveEventsMask
  split
  · exact .refl ..
  · exact (Move.port p _ ⟨id, fun own => ⟨own.1, and_and_not_self _ _⟩⟩).run

/-! ### Modes, parameter blocks and pockets -/

theorem Run.serveModeProduce (ops : List Byte) : Run c 0 s (serveModeProduce ops s).2 := by
  unfold Machine.serveModeProduce
  split
  · exact .refl ..
  · split
    · exact .setMode fun _ => nofun
    · exact .refl ..

theorem Run.serveModeResume (ops : List Byte) : Run c 0 s (serveModeResume ops s).2 := by
  unfold Machine.serveModeResume
  split
  · exact .refl ..
  · split
    · exact .setMode fun _ => nofun
    · exact .refl ..

theorem Run.serveModeDrain (ops : List Byte) : Run c 0 s (serveModeDrain ops s).2 := by
  unfold Machine.serveModeDrain
  split
  · exact .refl ..
  · refine .then (.setMode ?_) .drainCheck
    exact fun _ => nofun

theorem Run.serveModeSetup (ops : List Byte) : Run c 0 s (serveModeSetup ops s).2 := by
  unfold Machine.serveModeSetup
  split
  · exact .refl ..
  · rename_i halt
    exact .setMode fun stopped _ => stopped.1 (.inr (not_not.mp halt))

theorem Run.serveRestart (command : ∃ dt, c = .restart dt) (ops : List Byte) : Run c 0 s (serveRestart ops s).2 := by
  unfold Machine.serveRestart
  split
  · exact .refl ..
  · exact (Move.restart command).run

theorem Run.serveConfigWrite (command : ∃ dt, c = .configWrite dt) (ops : List Byte) :
    Run c 0 s (serveConfigWrite ops s).2 := by
  unfold Machine.serveConfigWrite
  split
  · exact .refl ..
  · rename_i setup
    split
    · exact .refl ..
    · rename_i idle
      split
      · exact .refl ..
      · exact (Move.configure _ command (not_not.mp setup) (Bool.eq_false_iff.mpr idle) ⟨ops, ‹_›⟩).run

theorem Run.serveAngleRearm (ops : List Byte) : Run c 0 s (serveAngleRearm ops s).2 := by
  unfold Machine.serveAngleRearm
  split
  · exact .refl ..
  · exact .tracker_of_same rfl rfl rfl

theorem Run.servePocketsClear (ends : EndsCycles c) (ops : List Byte) : Run c 768 s (servePocketsClear ops s).2 := by
  unfold Machine.servePocketsClear
  split
  · exact .refl ..
  · split
    · exact .refl ..
    · refine (Run.eachInSomeOrder fun h _ x _ => ⟨.makeRecord ends true h, .makeRecord x true h⟩).mono ?_
      exact (List.length_filter_le _ _).trans (by simp)

/-! ### Recipes and the stack -/

theorem Run.serveRecipeWrite (ops : List Byte) : Run c 0 s (serveRecipeWrite ops s).2 := by
  unfold Machine.serveRecipeWrite
  split
  · exact .refl ..
  · split
    · exact .refl ..
    · rename_i r carried
      split
      · exact .refl ..
      · refine (Move.recipe _ (some r) (fun r' hr => ?_) nofun).run
        obtain rfl := Option.some.inj hr
        unfold recipeOf at carried
        split at carried
        · cases carried
        · simp only [Option.ite_none_right_eq_some, Option.some.injEq] at carried
          exact carried.2 ▸ carried.1

theorem Run.serveRecipeErase (ops : List Byte) : Run c 0 s (serveRecipeErase ops s).2 := by
  unfold Machine.serveRecipeErase
  split
  · exact .refl ..
  · split
    · exact .refl ..
    · rename_i unnamed
      split
      · exact .refl ..
      · exact (Move.recipe _ none nofun fun _ => Bool.eq_false_iff.mpr unnamed).run

/-- A stack whose entries name slots that were named or are filled, and which is no deeper than the maximum depth. -/
theorem StackSound.of_entries {k : RecipeStack} (some : k.entries ≠ [])
    (most : s.stack.entries.length ≤ s.cfg.depth → k.entries.length ≤ s.cfg.depth)
    (slots : ∀ e ∈ k.entries, e ∈ s.stack.entries ∨ s.recipes[e.slot.val] ≠ none) (sound : StackSound s) :
    StackSound { s with stack := k } := by
  obtain ⟨depth, -, most', filled⟩ := sound
  refine ⟨depth, List.length_pos_iff.mpr some, most most', fun e he => ?_⟩
  rcases slots e he with old | new
  · exact filled e old
  · exact Option.isSome_iff_ne_none.mpr new

theorem Run.push {e : StackEntry} (filled : s.recipes[e.slot.val] ≠ none) : Run c 0 s (s.push e) := by
  unfold State.push State.setEntries
  split
  · rename_i room
    refine (Move.stack _ fun sound => ?_).run
    refine .of_entries (by simp) (fun _ => room) (fun e' he => ?_) sound
    rcases List.mem_cons.mp he with rfl | he
    · exact .inr filled
    · exact .inl he
  · refine Run.then (Move.stack _ fun sound => ?_).run (.raise _)
    have one := sound.2.1
    refine .of_entries (by simp) (fun most => ?_) (fun e' he => ?_) sound
    · simp only [List.length_cons, List.length_dropLast]
      omega
    · rcases List.mem_cons.mp he with rfl | he
      · exact .inr filled
      · exact .inl (List.mem_of_mem_dropLast he)

theorem Run.serveStackPush (ops : List Byte) : Run c 0 s (serveStackPush ops s).2 := by
  unfold Machine.serveStackPush
  split
  · exact .refl ..
  · split
    · exact .refl ..
    · split
      · exact .refl ..
      · exact .push ‹_›

theorem Run.serveStackPop (ops : List Byte) : Run c 0 s (serveStackPop ops s).2 := by
  unfold Machine.serveStackPop
  split
  · rename_i e' e rest entries
    refine (Move.stack _ (.of_entries (by simp) (fun most => ?_) fun x hx => .inl ?_)).run
    · rw [entries] at most
      simp only [List.length_cons] at most ⊢
      omega
    · rw [entries]
      exact List.mem_cons_of_mem _ hx
  · exact .refl ..

theorem Run.serveStackReplace (ops : List Byte) : Run c 0 s (serveStackReplace ops s).2 := by
  unfold Machine.serveStackReplace
  split
  · exact .refl ..
  · split
    · exact .refl ..
    · rename_i filled
      refine (Move.stack _ fun sound => ?_).run
      have one := sound.2.1
      refine .of_entries (by simp) (fun most => ?_) (fun e he => ?_) sound
      · simp only [List.length_cons, List.length_drop]
        omega
      · rcases List.mem_cons.mp he with rfl | he
        · exact .inr filled
        · exact .inl (List.mem_of_mem_drop he)

/-! ### Head requests -/

theorem Run.onHeadOperand {ops : List Byte} {serve : HeadId → Response × State}
    (served : ∀ h, Run c 0 s (serve h).2) : Run c 0 s (onHeadOperand ops s serve).2 := by
  unfold Machine.onHeadOperand
  split
  · exact .refl ..
  · exact served _

theorem serveHeadRead_same (ops : List Byte) (s : State) : (serveHeadRead ops s).2 = s := by
  unfold serveHeadRead onHeadOperand
  split
  · rfl
  · simp only []
    split_ifs <;> rfl

theorem Run.serveHeadCalWrite (writes : Calibrates c) (ops : List Byte) : Run c 0 s (serveHeadCalWrite ops s).2 := by
  refine .onHeadOperand fun h => ?_
  simp only []
  split
  · rename_i range
    dsimp only
    refine .updEntry ?_
    exact .of_calibration writes (.inl rfl) (.inr range) rfl rfl rfl rfl
  · exact .refl ..

theorem Run.serveHeadTrimSet (writes : Calibrates c) (ops : List Byte) : Run c 0 s (serveHeadTrimSet ops s).2 := by
  refine .onHeadOperand fun h => ?_
  split
  · exact .refl ..
  · dsimp only
    refine .updEntry ?_
    exact .of_calibration writes (.inr (clampTrim_natAbs_le _ _)) (.inl rfl) rfl rfl rfl rfl

theorem Run.serveHeadLeadSet (ops : List Byte) : Run c 0 s (serveHeadLeadSet ops s).2 := by
  refine .onHeadOperand fun h => ?_
  dsimp only
  refine .updEntry ?_
  exact .of_lead fun _ => Nat.min_le_right _ _

theorem Run.serveHeadBlock (ops : List Byte) : Run c 0 s (serveHeadBlock ops s).2 := by
  refine .onHeadOperand fun h => ?_
  dsimp only
  refine .updEntry ?_
  exact .of_service nofun

theorem Run.serveHeadRelease (ops : List Byte) : Run c 0 s (serveHeadRelease ops s).2 := by
  refine .onHeadOperand fun h => ?_
  dsimp only
  refine .updEntry ?_
  exact HeadRecord.released_move ..

theorem Run.serveHeadStatsClear (ops : List Byte) : Run c 0 s (serveHeadStatsClear ops s).2 := by
  refine .onHeadOperand fun h => ?_
  dsimp only
  refine .updHead ?_
  exact .stays _ (.refl ..) (.of_counts rfl rfl rfl rfl rfl rfl (.inl (Nat.zero_le _))) rfl rfl rfl

/-! ### The trace queue and level reports -/

theorem TraceQueue.setCursor_move (q : TraceQueue) (p : Port) (cursor : U32) : QueueMove q (q.setCursor p cursor) := by
  cases p <;> exact ⟨.refl _, rfl, .inl rfl, id⟩

theorem Run.serveTraceNext (p : Port) (ops : List Byte) : Run c 0 s (serveTraceNext p ops s).2 := by
  unfold Machine.serveTraceNext
  split
  · exact .refl ..
  · exact (Move.queue _ (TraceQueue.setCursor_move ..)).run

theorem serveTraceFind_same (ops : List Byte) (s : State) : (serveTraceFind ops s).2 = s := by
  unfold serveTraceFind
  split <;> rfl

theorem serveRecipeRead_same (ops : List Byte) (s : State) : (serveRecipeRead ops s).2 = s := by
  unfold serveRecipeRead
  split
  · rfl
  · split <;> rfl

theorem Run.serveTraceRewind (p : Port) (ops : List Byte) : Run c 0 s (serveTraceRewind p ops s).2 := by
  dsimp only [Machine.serveTraceRewind]
  exact (Move.queue _ (TraceQueue.setCursor_move ..)).run

/-- The held records leave the list for the count of cleared ones (R144, R145). -/
theorem TraceQueue.clear_move (q : TraceQueue) : QueueMove q q.clear := by
  refine ⟨List.nil_sublist _, rfl, .inl rfl, fun account => ?_⟩
  change q.created = 0 + q.matched + q.expired + q.evicted + (q.cleared + BitVec.ofNat 32 q.held.length) + q.lost
  rw [account, zero_add]
  ac_rfl

theorem Run.serveTraceClear (ops : List Byte) : Run c 0 s (serveTraceClear ops s).2 := by
  dsimp only [Machine.serveTraceClear]
  exact (Move.queue _ (TraceQueue.clear_move _)).run

theorem Run.serveSerialSet (ops : List Byte) : Run c 0 s (serveSerialSet ops s).2 := by
  unfold Machine.serveSerialSet
  split
  · exact .refl ..
  · split
    · exact .refl ..
    · split
      · exact .refl ..
      · rename_i nonzero empty
        refine (Move.queue _ ?_).run
        exact ⟨.refl _, rfl, .inr ⟨not_not.mp empty, nonzero⟩, id⟩

/-- The record a report retires leaves the held list for the count of matched ones (R143, R145). -/
theorem TraceQueue.retire_move {q : TraceQueue} {serial : U32} {r : TraceRecord} (found : q.find serial = some r) :
    QueueMove q (q.retire serial) := by
  unfold TraceQueue.find at found
  have one : (q.held.eraseP fun r => decide (r.serial = some serial)).length + 1 = q.held.length := by
    have mem := List.mem_of_find?_eq_some found
    rw [List.length_eraseP_of_mem mem (List.find?_some found),
      Nat.sub_add_cancel (List.length_pos_of_mem mem)]
  refine .bringUp ⟨List.eraseP_sublist, rfl, .inl rfl, fun account => ?_⟩
  change q.created = BitVec.ofNat 32 _ + (q.matched + 1) + q.expired + q.evicted + q.cleared + q.lost
  rw [account, ← one, BitVec.ofNat_add]
  ac_rfl

theorem Run.serveLevelReport (writes : Calibrates c) (ops : List Byte) : Run c 0 s (serveLevelReport ops s).2 := by
  by_cases zero : serialOperand ops = 0
  · simp only [Machine.serveLevelReport, if_pos zero]
    exact .refl ..
  · cases found : s.queue.find (serialOperand ops) with
    | none =>
      simp only [Machine.serveLevelReport, if_neg zero, State.report, found]
      exact (Move.counts _ s.choices).run
    | some r =>
      rw [serveLevelReport_of_find zero found]
      refine Run.then (Move.queue _ (TraceQueue.retire_move found)).run (.updEntry ?_)
      exact HeadRecord.reported_move writes ..

end Sys2Proof.Machine
end

section
/-! ## What a command can do -/

namespace Sys2Proof.Machine

variable {c : Instr} {s t u : State}

theorem Quiet.trans (a : Quiet s t) (b : Quiet t u) : Quiet s u :=
  ⟨b.tracker.trans a.tracker, b.recipes.trans a.recipes, b.stack.trans a.stack, b.queue.trans a.queue,
    b.mode.trans a.mode, b.cfg.trans a.cfg, b.tuning.trans a.tuning, fun p => (b.port p).trans (a.port p),
    fun h => (b.seq h).trans (a.seq h), fun h => (b.cmd h).trans (a.cmd h), fun h => (b.entry h).trans (a.entry h)⟩

/-- A command lets its time pass and takes its pins, which is quiet, and then makes a run of moves; from a tracker in
range it makes no more records than six at each head and count of a turn. -/
structure Ran (c : Instr) (s t : State) : Prop where
  run : ∃ u, Quiet s u ∧ u.now = s.now + elapsedOf c ∧ u.pending = s.pending ∧
    ∃ b, Run c b u t ∧ (TrackerInRange s → b ≤ 768 * 32768)

theorem next_eq {a b : State} (h : (Host.Outcome.next a : Result) = .next b) : a = b := Host.Outcome.next.inj h

theorem Ran.of_quiet {a : State} (h : (Host.Outcome.next a : Result) = .next t) (quiet : Quiet s u)
    (now : u.now = s.now + elapsedOf c) (pending : u.pending = s.pending) {b : Nat} (run : Run c b u a)
    (bound : TrackerInRange s → b ≤ 768 * 32768) : Ran c s t :=
  ⟨u, quiet, now, pending, b, next_eq h ▸ run, bound⟩

/-- A command that lets its time pass and then makes a run of moves with no more than one turn's records. -/
theorem Ran.of_run {a : State} {b : Nat} (h : (Host.Outcome.next a : Result) = .next t)
    (run : Run c b (s.elapse (elapsedOf c)) a) (bound : b ≤ 768 := by decide) : Ran c s t :=
  .of_quiet h (.elapse s _) rfl rfl run fun _ => by omega

/-- A command on a head position that the part has. -/
theorem Ran.of_onHead {head : Nat} {f : HeadId → State → State} {x : State} (h : onHead head f x = .next t)
    (ran : ∀ i, Ran c s (f i x)) : Ran c s t := by
  unfold onHead at h
  split at h
  · exact next_eq h ▸ ran _
  · cases h

theorem Quiet.settled (s : State) (dt : Nat) (o : Output) (h : HeadId) :
    Quiet s ((s.elapse dt).updHead h fun x => { x with iface := { x.iface with settle := x.iface.settle.put o none } }) where
  tracker := rfl
  recipes := rfl
  stack := rfl
  queue := rfl
  mode := rfl
  cfg := rfl
  tuning := rfl
  port p := by cases p <;> rfl
  seq i := by rw [State.head_updHead]; split <;> [(rename_i hi; subst hi; rfl); rfl]
  cmd i := by rw [State.head_updHead]; split <;> [(rename_i hi; subst hi; rfl); rfl]
  entry i := by rw [State.head_updHead]; split <;> [(rename_i hi; subst hi; rfl); rfl]

theorem Ran.outputSettled (dt : Nat) (hd : elapsedOf c = dt) (o : Output) (h : HeadId) :
    Ran c s ((s.elapse dt).outputSettled o h) := by
  subst hd
  have settled : ∀ b, Run c 0 ((s.elapse (elapsedOf c)).updHead h fun x =>
      { x with iface := { x.iface with settle := x.iface.settle.put o none } }) b → Ran c s b := fun _ run =>
    .of_quiet rfl (.settled s _ o h) rfl rfl run fun _ => Nat.zero_le _
  unfold State.outputSettled
  split
  · simp only []
    split
    · exact settled _ (.readbackFault h)
    · exact settled _ (.refl ..)
  · exact .of_run rfl (.refl 0 _)

/-- What a command can do (every command of the table). -/
theorem exec_ran (h : exec c s = .next t) : Ran c s t := by
  cases c with
  | powerOnReset dt => exact .of_run h (Move.powerOn ⟨dt, rfl⟩).run
  | encoderCount dt a b infeed =>
    have quiet : Quiet s { s.elapse dt with encA := a, encB := b, infeed := infeed } :=
      ⟨rfl, rfl, rfl, rfl, rfl, rfl, rfl, fun p => by cases p <;> rfl, fun _ => rfl, fun _ => rfl, fun _ => rfl⟩
    have counted : ∀ {x}, (Host.Outcome.next x : Result) = .next t →
        Run _ 768 { s.elapse dt with encA := a, encB := b, infeed := infeed } x →
        Ran (.encoderCount dt a b infeed) s t := fun hx run =>
      .of_quiet hx quiet rfl rfl run fun _ => by omega
    change execEncoderCount dt a b infeed s = _ at h
    unfold execEncoderCount at h
    simp only [] at h
    split at h
    · exact counted h (.refl ..)
    · exact counted h (.forwardCount ⟨dt, a, b, infeed, by simp⟩)
    · exact counted h (Run.reverseCount.mono (Nat.zero_le _))
    · exact counted h (Run.angleFault.mono (Nat.zero_le _))
  | indexArrival dt infeed =>
    have quiet : Quiet s { s.elapse dt with infeed := infeed } :=
      ⟨rfl, rfl, rfl, rfl, rfl, rfl, rfl, fun p => by cases p <;> rfl, fun _ => rfl, fun _ => rfl, fun _ => rfl⟩
    refine .of_quiet h quiet rfl rfl (.indexArrival ⟨dt, false, false, infeed, by simp⟩) fun range => ?_
    obtain ⟨turn, angle, -, -⟩ := range
    exact Nat.mul_le_mul_left 768 ((indexError_natAbs_le angle).trans turn.2)
  | stopTimeout dt => exact .of_run h .checkStop
  | meterPulse dt head => exact .of_onHead h fun i => .of_run rfl (.meterEdge i)
  | psPinChange dt head level => exact .of_onHead h fun i => .of_run rfl (.psLevel level i)
  | pressureFilterExpiry dt head => exact .of_onHead h fun i => .of_run rfl (.filterDone i)
  | valveSettleExpiry dt head out => exact .of_onHead h fun i => .outputSettled dt rfl out i
  | coilSenseChange dt head out level => exact .of_onHead h fun i => .of_run rfl (.senseLevel out level i)
  | estopChange dt level =>
    have quiet : Quiet s { s.elapse dt with estop := level } :=
      ⟨rfl, rfl, rfl, rfl, rfl, rfl, rfl, fun p => by cases p <;> rfl, fun _ => rfl, fun _ => rfl, fun _ => rfl⟩
    refine .of_quiet (b := 0) h quiet rfl rfl ?_ fun _ => Nat.zero_le _
    split
    · exact .enterHalt
    · exact .refl ..
  | noFlowExpiry dt head =>
    exact .of_onHead (f := fun i x => x.updHead i (Head.onNoFlow x.now x.cfg)) h fun i => .of_run rfl (.updHead Head.onNoFlow_move)
  | holdExpiry dt head =>
    exact .of_onHead (f := fun i x => x.updHead i (Head.onHold x.now x.cfg)) h fun i => .of_run rfl (.updHead Head.onHold_move)
  | settleTimerExpiry dt head =>
    exact .of_onHead (f := fun i x => x.updHead i (Head.onSettled x.now x.cfg)) h fun i => .of_run rfl (.updHead Head.onSettled_move)
  | sniftTimerExpiry dt head => exact .of_onHead h fun i => .of_run rfl (.sniftDone i)
  | attnPulseEnd dt port => exact .of_run h (.endPulse port)
  | frameEnd dt port bits => exact .of_run h (.closeFrame port _)
  | selectFall dt port => exact .of_run h (.openFrame port)
  | nop dt port => exact .of_run h (.complete_of_same fun _ => rfl)
  | identify dt port => exact .of_run h (.complete_of_same fun _ => rfl)
  | status dt port => exact .of_run h (.complete_of_same fun _ => rfl)
  | configRead dt => exact .of_run h (.complete_of_same fun _ => rfl)
  | tuningRead dt => exact .of_run h (.complete_of_same fun _ => rfl)
  | stackRead dt => exact .of_run h (.complete_of_same fun _ => rfl)
  | traceStatus dt port => exact .of_run h (.complete_of_same fun _ => rfl)
  | recipeRead dt => exact .of_run h (.complete_of_same fun ops => serveRecipeRead_same ops _)
  | headRead dt port => exact .of_run h (.complete_of_same fun ops => serveHeadRead_same ops _)
  | traceFind dt port => exact .of_run h (.complete_of_same fun ops => serveTraceFind_same ops _)
  | eventsRead dt port => exact .of_run h (.complete fun ops _ => .serveEventsRead port ops)
  | eventsMask dt port => exact .of_run h (.complete fun ops _ => .serveEventsMask port ops)
  | modeProduce dt => exact .of_run h (.complete fun ops _ => .serveModeProduce ops)
  | modeDrain dt => exact .of_run h (.complete fun ops _ => .serveModeDrain ops)
  | modeHalt dt => exact .of_run h (.complete fun _ _ => .enterHalt)
  | modeResume dt => exact .of_run h (.complete fun ops _ => .serveModeResume ops)
  | modeSetup dt => exact .of_run h (.complete fun ops _ => .serveModeSetup ops)
  | restart dt => exact .of_run h (.complete fun ops _ => .serveRestart ⟨dt, rfl⟩ ops)
  | configWrite dt => exact .of_run h (.complete fun ops _ => .serveConfigWrite ⟨dt, rfl⟩ ops)
  | tuningWrite dt => exact .of_run h (.complete fun ops _ => (Move.tune ops ⟨dt, by simp⟩).run)
  | angleRearm dt => exact .of_run h (.complete fun ops _ => .serveAngleRearm ops)
  | pocketsClear dt =>
    exact .of_run h (.complete fun ops _ => .servePocketsClear ⟨dt, false, false, false, by simp⟩ ops)
  | recipeWrite dt => exact .of_run h (.complete fun ops _ => .serveRecipeWrite ops)
  | recipeErase dt => exact .of_run h (.complete fun ops _ => .serveRecipeErase ops)
  | stackPush dt => exact .of_run h (.complete fun ops _ => .serveStackPush ops)
  | stackPop dt => exact .of_run h (.complete fun ops _ => .serveStackPop ops)
  | stackReplace dt => exact .of_run h (.complete fun ops _ => .serveStackReplace ops)
  | headCalWrite dt => exact .of_run h (.complete fun ops _ => .serveHeadCalWrite ⟨dt, by simp⟩ ops)
  | headTrimSet dt => exact .of_run h (.complete fun ops _ => .serveHeadTrimSet ⟨dt, by simp⟩ ops)
  | headLeadSet dt => exact .of_run h (.complete fun ops _ => .serveHeadLeadSet ops)
  | headBlock dt => exact .of_run h (.complete fun ops _ => .serveHeadBlock ops)
  | headRelease dt => exact .of_run h (.complete fun ops _ => .serveHeadRelease ops)
  | headStatsClear dt => exact .of_run h (.complete fun ops _ => .serveHeadStatsClear ops)
  | traceNext dt port => exact .of_run h (.complete fun ops _ => .serveTraceNext port ops)
  | traceRewind dt port => exact .of_run h (.complete fun ops _ => .serveTraceRewind port ops)
  | traceClear dt => exact .of_run h (.complete fun ops _ => .serveTraceClear ops)
  | serialSet dt => exact .of_run h (.complete fun ops _ => .serveSerialSet ops)
  | levelReport dt => exact .of_run h (.complete fun ops _ => .serveLevelReport ⟨dt, by simp⟩ ops)

/-- What a quiet change and every move keep, every step keeps. -/
theorem step_keeps {P : State → Prop} (quiet : ∀ s u, Quiet s u → P s → P u)
    (move : ∀ c n s t, Move c n s t → P s → P t) {s t : State} (hp : P s) (h : step s = .next t) : P t := by
  unfold step at h
  split at h
  · exact next_eq h ▸ hp
  · rename_i c rest _
    have waiting : Quiet s { s with pending := rest } :=
      ⟨rfl, rfl, rfl, rfl, rfl, rfl, rfl, fun p => by cases p <;> rfl, fun _ => rfl, fun _ => rfl, fun _ => rfl⟩
    obtain ⟨u, started, -, -, b, run, -⟩ := (exec_ran h).run
    exact run.keeps (move c) (quiet _ _ (waiting.trans started) hp)

end Sys2Proof.Machine
end

section
/-! ## A configuration block taken into force (R19, R22, R132, R180) -/

namespace Sys2Proof.Machine

variable (new : ConfigBlock) (s : State)

/-! ### The stop clock against its timeout (R14) -/

/-- The stop clock ends RUNNING. -/
def State.Stops (s : State) : Prop :=
  s.tracker.motion = .running ∧ s.tracker.stopStart + s.cfg.stopTimeout * 1000 ≤ s.now

theorem State.checkStop_of_stops (h : s.Stops) : s.checkStop = s.leaveRunning .stopped :=
  if_pos ⟨h.1, decide_eq_true h.2⟩

theorem State.checkStop_of_not_stops (h : ¬ s.Stops) : s.checkStop = s :=
  if_neg fun stops => h ⟨stops.1, of_decide_eq_true stops.2⟩

/-- Leaving RUNNING changes the tracker and the heads alone. -/
theorem State.leaveRunning_eq (m : Motion) :
    s.leaveRunning m =
      { s with
        tracker := { s.tracker with motion := m, speed := 0, timingMark := false }
        heads := (s.leaveRunning m).heads } := rfl

theorem State.head_leaveRunning (m : Motion) (h : HeadId) :
    (s.leaveRunning m).head h = if h.val < s.cfg.n then (s.head h).motionLeave s.now s.cfg else s.head h :=
  State.head_mapBelow ..

theorem State.checkStop_frame :
    s.checkStop = { s with tracker := s.checkStop.tracker, heads := s.checkStop.heads } := by
  by_cases stops : s.Stops
  · rw [s.checkStop_of_stops stops]
    exact s.leaveRunning_eq .stopped
  · rw [s.checkStop_of_not_stops stops]

theorem State.head_checkStop_cases (h : HeadId) :
    s.checkStop.head h = s.head h ∨ s.checkStop.head h = (s.head h).motionLeave s.now s.cfg := by
  by_cases stops : s.Stops
  · rw [s.checkStop_of_stops stops, s.head_leaveRunning]
    split
    · exact .inr rfl
    · exact .inl rfl
  · rw [s.checkStop_of_not_stops stops]
    exact .inl rfl

/-! ### The tracker's part of a configuration write (R19, R14) -/

/-- The state with the block stored and the tracker under its T. -/
def State.retracked (new : ConfigBlock) (s : State) : State :=
  { s with cfg := new, tracker := if new.t = s.cfg.t then s.tracker else s.tracker.newT s.now }

/-- The state with the block stored and taken by the tracker, its stop clock checked under a new stop timeout. -/
def State.retimed (new : ConfigBlock) (s : State) : State :=
  if new.stopTimeout = s.cfg.stopTimeout then s.retracked new else (s.retracked new).checkStop

theorem State.retimed_frame :
    s.retimed new =
      { s with cfg := new, tracker := (s.retimed new).tracker, heads := (s.retimed new).heads } := by
  unfold State.retimed
  split
  · rfl
  · exact State.checkStop_frame _

theorem State.head_retimed_cases (h : HeadId) :
    (s.retimed new).head h = s.head h ∨ (s.retimed new).head h = (s.head h).motionLeave s.now new := by
  unfold State.retimed
  split
  · exact .inl rfl
  · exact State.head_checkStop_cases _ h

/-- The tracker drops its reference with a new T, and stops under a new stop timeout that has already passed. -/
theorem State.retimed_tracker :
    let retained := (s.retracked new).tracker
    (s.retimed new).tracker =
      if new.stopTimeout ≠ s.cfg.stopTimeout ∧ retained.motion = .running ∧
          retained.stopStart + new.stopTimeout * 1000 ≤ s.now then
        { retained with motion := .stopped, speed := 0, timingMark := false }
      else retained := by
  intro retained
  unfold State.retimed
  split
  · rename_i kept
    rw [if_neg fun stops => stops.1 kept]
  · rename_i changed
    by_cases stops : (s.retracked new).Stops
    · rw [State.checkStop_of_stops _ stops, if_pos ⟨changed, stops⟩]
      rfl
    · rw [State.checkStop_of_not_stops _ stops, if_neg fun c => stops c.2]

/-! ### The heads and the stack -/

/-- The heads that the block's N brings into service start afresh (R22). -/
def State.inService (old : Nat) (s : State) : State :=
  if old < s.cfg.n then s.mapHeads fun h x => if old ≤ h.val ∧ h.val < s.cfg.n then x.intoService else x else s

theorem State.head_inService (old : Nat) (h : HeadId) :
    (s.inService old).head h = if old ≤ h.val ∧ h.val < s.cfg.n then (s.head h).intoService else s.head h := by
  unfold State.inService
  split
  · exact State.head_mapHeads ..
  · rw [if_neg (by omega)]

theorem State.inService_frame (old : Nat) : s.inService old = { s with heads := (s.inService old).heads } := by
  unfold State.inService State.mapHeads
  split <;> rfl

/-- The depth of the block lies below the depth before it and below the height of the stack (R132). -/
def State.Spills (old : Nat) (s : State) : Prop := s.cfg.depth < old ∧ s.cfg.depth < s.stack.entries.length

theorem State.newDepth_of_spills {old : Nat} (h : s.Spills old) :
    s.newDepth old =
      ({ s with stack := ⟨s.stack.entries.take s.cfg.depth,
        satAdd s.stack.spills (s.stack.entries.length - s.cfg.depth)⟩ }).raise .stackNotice :=
  if_pos h

theorem State.newDepth_of_not_spills {old : Nat} (h : ¬ s.Spills old) : s.newDepth old = s := if_neg h

/-- A new depth reaches the stack, and through STACK_NOTICE the line port, alone (R132, R133). -/
theorem State.newDepth_frame (old : Nat) :
    s.newDepth old = { s with stack := (s.newDepth old).stack, line := (s.newDepth old).line } := by
  by_cases spills : s.Spills old
  · rw [s.newDepth_of_spills spills]
    rfl
  · rw [s.newDepth_of_not_spills spills]

/-! ### The whole block -/

theorem State.configure_eq :
    s.configure new = ((s.retimed new).inService s.cfg.n).newDepth s.cfg.depth := by
  have block : (s.retimed new).cfg = new := by rw [s.retimed_frame]
  have tracked : (if new.t = s.cfg.t then { s with cfg := new }
      else { s with cfg := new, tracker := s.tracker.newT s.now }) = s.retracked new := by
    unfold State.retracked
    split <;> rfl
  rw [State.inService, block]
  simp only [State.configure, tracked]
  rfl

/-- A configuration write reaches the block, the tracker, the heads, the stack and the line port alone. -/
theorem State.configure_frame :
    s.configure new = { s with
      cfg := new
      tracker := (s.retimed new).tracker
      heads := (s.configure new).heads
      stack := (s.configure new).stack
      line := (s.configure new).line } := by
  have depth := ((s.retimed new).inService s.cfg.n).newDepth_frame s.cfg.depth
  rw [← s.configure_eq] at depth
  rw [depth, (s.retimed new).inService_frame, s.retimed_frame]

@[simp] theorem State.configure_cfg : (s.configure new).cfg = new := by rw [s.configure_frame]
@[simp] theorem State.configure_mode : (s.configure new).mode = s.mode := by rw [s.configure_frame]
@[simp] theorem State.configure_tuning : (s.configure new).tuning = s.tuning := by rw [s.configure_frame]
@[simp] theorem State.configure_recipes : (s.configure new).recipes = s.recipes := by rw [s.configure_frame]
@[simp] theorem State.configure_queue : (s.configure new).queue = s.queue := by rw [s.configure_frame]
@[simp] theorem State.configure_insp : (s.configure new).insp = s.insp := by rw [s.configure_frame]
@[simp] theorem State.configure_now : (s.configure new).now = s.now := by rw [s.configure_frame]
@[simp] theorem State.configure_pending : (s.configure new).pending = s.pending := by rw [s.configure_frame]

theorem State.configure_tracker : (s.configure new).tracker = (s.retimed new).tracker := by rw [s.configure_frame]

theorem State.head_configure (h : HeadId) :
    (s.configure new).head h =
      if s.cfg.n ≤ h.val ∧ h.val < new.n then ((s.retimed new).head h).intoService else (s.retimed new).head h := by
  have block : (s.retimed new).cfg = new := by rw [s.retimed_frame]
  have kept : (s.configure new).head h = ((s.retimed new).inService s.cfg.n).head h := by
    rw [s.configure_eq, State.newDepth_frame]
    rfl
  rw [kept, State.head_inService, block]

/-- A configuration write leaves a head its record, and its cycle but for a motion-leave (R14, R22). -/
theorem State.head_configure_cycle (h : HeadId) :
    ∃ x : Head, (x = s.head h ∨ x = (s.head h).motionLeave s.now new) ∧
      ((s.configure new).head h).seq = x.seq ∧ ((s.configure new).head h).entry = x.entry := by
  refine ⟨_, s.head_retimed_cases new h, ?_⟩
  rw [s.head_configure]
  split
  · exact ⟨rfl, rfl⟩
  · exact ⟨rfl, rfl⟩

theorem Head.motionLeave_of_idle {now : Nat} {cfg : ConfigBlock} {x : Head} (idle : x.seq.state = .idle) :
    x.motionLeave now cfg = x := by
  simp [Head.motionLeave, idle]

/-- An idle head keeps everything but the interface it starts afresh with (R22). -/
theorem State.head_configure_idle (h : HeadId) (idle : (s.head h).seq.state = .idle) :
    (s.configure new).head h =
      if s.cfg.n ≤ h.val ∧ h.val < new.n then (s.head h).intoService else s.head h := by
  have same : (s.retimed new).head h = s.head h := by
    rcases s.head_retimed_cases new h with kept | left
    · exact kept
    · rw [left, Head.motionLeave_of_idle idle]
  rw [s.head_configure, same]

theorem State.headsBusy_eq_false_iff :
    s.headsBusy = false ↔ ∀ h : HeadId, h.val < s.cfg.n → (s.head h).seq.state = .idle := by
  simp [State.headsBusy]

/-- The stack and the line port under the block's depth (R132, R133). -/
theorem State.configure_stack :
    (new.depth < s.cfg.depth ∧ new.depth < s.stack.entries.length →
      (s.configure new).stack = ⟨s.stack.entries.take new.depth,
        satAdd s.stack.spills (s.stack.entries.length - new.depth)⟩ ∧
      (s.configure new).line = s.line.take s.now .stackNotice) ∧
    (¬ (new.depth < s.cfg.depth ∧ new.depth < s.stack.entries.length) →
      (s.configure new).stack = s.stack ∧ (s.configure new).line = s.line) := by
  have frame : (s.retimed new).inService s.cfg.n =
      { s with cfg := new, tracker := (s.retimed new).tracker, heads := ((s.retimed new).inService s.cfg.n).heads } := by
    rw [State.inService_frame, s.retimed_frame]
  refine ⟨fun spills => ?_, fun stays => ?_⟩
  · rw [s.configure_eq, State.newDepth_of_spills _ (by rw [frame]; exact spills), frame]
    exact ⟨rfl, rfl⟩
  · rw [s.configure_eq, State.newDepth_of_not_spills _ (by rw [frame]; exact stays), frame]
    exact ⟨rfl, rfl⟩

/-- The ranges of an accepted block (R180). -/
theorem configOf_bounds {ops : List Byte} {new : ConfigBlock} (h : configOf ops = some new) :
    (12 ≤ new.n ∧ new.n ≤ 128) ∧ (1024 ≤ new.t ∧ new.t ≤ 32768) ∧ new.tolerance ≤ 15 ∧
      (20 ≤ new.stopTimeout ∧ new.stopTimeout ≤ 2000) ∧ (new.depth = 2 ∨ new.depth = 6) ∧
      (1 ≤ new.horizon ∧ new.horizon ≤ 15) ∧ (1 ≤ new.spacing ∧ new.spacing ≤ 255) ∧
      (2 ≤ new.valveSettle ∧ new.valveSettle ≤ 100) ∧ (1 ≤ new.holdLimit ∧ new.holdLimit ≤ 600) := by
  simp only [configOf] at h
  split at h
  · cases h
  · split at h
    · rename_i ranges
      obtain rfl := Option.some.inj h
      obtain ⟨n, t, depth⟩ := ranges
      exact ⟨n, t, (clampNat_bounds (Nat.zero_le 15) _).2, clampNat_bounds (show 20 ≤ 2000 by decide) _, depth,
        clampNat_bounds (show 1 ≤ 15 by decide) _, clampNat_bounds (show 1 ≤ 255 by decide) _,
        clampNat_bounds (show 2 ≤ 100 by decide) _, clampNat_bounds (show 1 ≤ 600 by decide) _⟩
    · cases h

end Sys2Proof.Machine
end

section
/-! ## The laws of the whole part: tracker, ports, head table -/

namespace Sys2Proof.Machine

variable {c : Instr} {n : Nat} {s t : State}

/-! ### The tracker's ranges (section 1.1, R3, R4) -/

theorem TrackerInRange.congr (cfg : t.cfg.t = s.cfg.t) (tracker : t.tracker = s.tracker) (h : TrackerInRange s) :
    TrackerInRange t := by
  unfold TrackerInRange
  rw [cfg, tracker]
  exact h

/-- A tracker at angle 0 without debt is in range unless it is REVERSING. -/
theorem TrackerInRange.of_zero (turn : 1024 ≤ t.cfg.t ∧ t.cfg.t ≤ 32768) (angle : t.tracker.angle = 0)
    (debt : t.tracker.debt = 0) (motion : t.tracker.motion ≠ .reversing) : TrackerInRange t := by
  unfold TrackerInRange
  rw [angle, debt]
  exact ⟨turn, by omega, Nat.zero_le _, fun h => absurd h motion, fun h => absurd h (lt_irrefl 0)⟩

theorem Tracker.newT_motion_ne (now : Nat) (k : Tracker) : (k.newT now).motion ≠ .reversing := by
  cases h : k.motion <;> simp [Tracker.newT, h]

theorem TrackerInRange.retracked {new : ConfigBlock} (turn : 1024 ≤ new.t ∧ new.t ≤ 32768) (h : TrackerInRange s) :
    TrackerInRange (s.retracked new) := by
  by_cases same : new.t = s.cfg.t
  · exact h.congr same (if_pos same)
  · have tracker : (s.retracked new).tracker = s.tracker.newT s.now := if_neg same
    exact .of_zero turn (by rw [tracker]; rfl) (by rw [tracker]; rfl)
      (by rw [tracker]; exact Tracker.newT_motion_ne s.now s.tracker)

theorem TrackerInRange.configure {new : ConfigBlock} (turn : 1024 ≤ new.t ∧ new.t ≤ 32768) (h : TrackerInRange s) :
    TrackerInRange (s.configure new) := by
  have retained := h.retracked turn
  have tracker := s.configure_tracker new
  rw [s.retimed_tracker] at tracker
  have cfg : (s.configure new).cfg.t = (s.retracked new).cfg.t := by rw [State.configure_cfg]; rfl
  split at tracker
  · rename_i stops
    obtain ⟨range, angle, debt, motion⟩ := retained
    have paid : ¬ 0 < (s.retracked new).tracker.debt := fun owed => by simp [motion.mpr owed] at stops
    unfold TrackerInRange
    rw [cfg, tracker]
    exact ⟨range, angle, debt, ⟨(nomatch ·), fun owed => absurd owed paid⟩⟩
  · exact retained.congr cfg tracker

/-- The tracker in range is kept by every move. -/
theorem TrackerInRange.move (m : Move c n s t) (h : TrackerInRange s) : TrackerInRange t := by
  cases m with
  | tracker k range => exact range h
  | mode | recipe | stack | queue | record | counts => exact h.congr rfl rfl
  | heads f => exact h.congr (by rw [State.mapHeads_cfg]) (State.mapHeads_tracker ..)
  | port p f => exact h.congr (by rw [State.updPort_cfg]) (State.updPort_tracker ..)
  | powerOn =>
    have turn : 1024 ≤ configDefault.t ∧ configDefault.t ≤ 32768 := by decide
    exact .of_zero turn rfl rfl (by rintro ⟨⟩)
  | restart => exact .of_zero h.1 rfl rfl (by rintro ⟨⟩)
  | configure new command setup idle block =>
    obtain ⟨ops, accepted⟩ := block
    obtain ⟨-, turn, -⟩ := configOf_bounds accepted
    exact h.configure turn
  | tune ops => exact h.congr (by rw [State.tune_eq]) (by rw [State.tune_eq])

/-! ### The ports (R189, R201) -/

theorem PortState.restarted_move (p : Port) (x : PortState) : PortMove p x x.restarted where
  exclusive _ _ := rfl
  own h := ⟨BitVec.zero_and, h.2⟩

/-- Every move but the resets keeps the laws of each port. -/
theorem Move.port_keeps (m : Move c n s t) (p : Port) : PortMove p (s.port p) (t.port p) := by
  have same : ∀ {x}, x = s.port p → PortMove p (s.port p) x := fun e => e ▸ ⟨id, id⟩
  cases m with
  | tracker | mode | recipe | stack | queue | record | counts => exact same (by cases p <;> rfl)
  | heads f => exact same (by cases p <;> simp [State.port])
  | port q f keeps =>
    by_cases h : q = p
    · subst h
      rw [State.port_updPort_same]
      exact keeps
    · exact same (State.port_updPort_other _ _ _ _ h)
  | powerOn =>
    have fresh : s.powerOn.port p = portPowerOn := by cases p <;> rfl
    rw [fresh]
    exact ⟨fun _ _ => rfl, fun _ => ⟨BitVec.zero_and, BitVec.zero_and⟩⟩
  | restart =>
    cases p with
    | line => exact PortState.restarted_move ..
    | inspection =>
      obtain ⟨exclusive, own⟩ := PortState.restarted_move .inspection s.insp
      exact ⟨exclusive, own⟩
  | configure new =>
    cases p with
    | inspection => exact same (State.configure_insp ..)
    | line =>
      obtain ⟨spilt, kept⟩ := s.configure_stack new
      by_cases spills : new.depth < s.cfg.depth ∧ new.depth < s.stack.entries.length
      · change PortMove .line s.line (s.configure new).line
        rw [(spilt spills).2]
        exact PortState.take_move rfl s.now _
      · exact same (kept spills).2
  | tune ops =>
    cases p with
    | inspection => exact same (by rw [State.tune_eq]; simp only [State.port])
    | line =>
      have line : (s.tune (tuningOf ops)).port .line =
          if s.tuneBlocks (tuningOf ops) then s.line.take s.now .headBlocked else s.line := by
        rw [State.tune_eq]
        rfl
      rw [line]
      split
      · exact PortState.take_move rfl s.now _
      · exact ⟨id, id⟩

/-! ### The head table (R88, R98, R100, R104) -/

/-- A property of one head's record and the tuning block that every event keeps. -/
structure EntryLaw (P : TuningBlock → HeadRecord → Prop) : Prop where
  event : ∀ c k e e', EntryMove c k e e' → P k e → P k e'
  restart : ∀ k e, P k e → P k e.restarted
  tuned : ∀ old e ops, P old e → P (tuningOf ops) (e.tuned old (tuningOf ops))
  powerOn : P tuningDefault entryPowerOn

/-- The record of every head is as `P` asks. -/
def Entries (P : TuningBlock → HeadRecord → Prop) (s : State) : Prop := ∀ h, P s.tuning (s.head h).entry

theorem HeadMove.entry {h : HeadId} {x y : Head} (m : HeadMove c s h x y) : EntryMove c s.tuning x.entry y.entry := by
  cases m with
  | stays y cycle entry => exact entry
  | enters q e st cycle entry => exact entry

theorem Head.motionLeave_entry (now : Nat) (cfg : ConfigBlock) (x : Head) :
    (x.motionLeave now cfg).entry = x.entry := by
  unfold Head.motionLeave
  split <;> rfl

theorem State.entry_configure (new : ConfigBlock) (h : HeadId) :
    ((s.configure new).head h).entry = (s.head h).entry := by
  obtain ⟨x, same | left, -, entry⟩ := s.head_configure_cycle new h
  · rw [entry, same]
  · rw [entry, left, Head.motionLeave_entry]

theorem EntryLaw.move {P : TuningBlock → HeadRecord → Prop} (law : EntryLaw P) (m : Move c n s t)
    (h : Entries P s) : Entries P t := by
  intro i
  cases m with
  | tracker | mode | recipe | stack | queue | record | counts => exact h i
  | port p f =>
    rw [State.updPort_tuning, State.head_updPort]
    exact h i
  | heads f each =>
    rw [State.mapHeads_tuning, State.head_mapHeads]
    exact law.event _ _ _ _ (each i).entry (h i)
  | powerOn =>
    rw [State.head_powerOn]
    exact law.powerOn
  | restart =>
    rw [State.head_restarted]
    exact law.restart _ _ (h i)
  | configure new =>
    rw [State.configure_tuning, State.entry_configure]
    exact h i
  | tune ops =>
    rw [State.head_tune, State.tune_eq]
    exact law.tuned _ _ _ (h i)

theorem EntryLaw.step {P : TuningBlock → HeadRecord → Prop} (law : EntryLaw P) (hs : Entries P s)
    (h : step s = .next t) : Entries P t :=
  step_keeps (P := Entries P) (fun _ _ quiet keeps i => by rw [quiet.tuning, quiet.entry i]; exact keeps i)
    (fun _ _ _ _ => law.move) hs h

theorem trim_law :
    EntryLaw fun k e => k.trimLimit ≤ 500 ∧ e.trim.natAbs ≤ k.trimLimit where
  event _ _ _ _ m := fun ⟨limit, trim⟩ => ⟨limit, m.trim trim⟩
  restart _ _ h := h
  tuned old e ops := fun ⟨_, trim⟩ => by
    refine ⟨(tuningOf_bounds ops).1, ?_⟩
    rw [HeadRecord.tuned_eq]
    dsimp only
    split
    · split
      · omega
      · omega
    · omega
  powerOn := by decide

theorem lead_law : EntryLaw fun _ e => e.l16 ≤ 4080 where
  event _ _ _ _ m := m.lead
  restart _ _ h := h
  tuned old e ops h := by rw [HeadRecord.tuned_eq]; exact h
  powerOn := by decide

theorem history_law : EntryLaw fun _ e => e.history.length ≤ 8 where
  event _ _ _ _ m := m.history
  restart _ _ _ := Nat.zero_le 8
  tuned old e ops h := by rw [HeadRecord.tuned_eq]; exact h
  powerOn := by decide

theorem service_law :
    EntryLaw fun k e => (1 ≤ k.blockThreshold ∧ k.blockThreshold ≤ 8) ∧
      (e.service = .inService → e.faults < k.blockThreshold) where
  event _ _ _ _ m := fun ⟨bound, service⟩ => ⟨bound, m.service bound.1 service⟩
  restart _ _ h := ⟨h.1, fun _ => h.1.1⟩
  tuned old e ops := fun ⟨_, service⟩ => by
    refine ⟨(tuningOf_bounds ops).2.1, ?_⟩
    rw [HeadRecord.tuned_eq]
    dsimp only
    split
    · intro blocked
      cases blocked
    · rename_i stays
      intro working
      have below := service working
      by_contra above
      exact stays ⟨by omega, working, by omega⟩
  powerOn := by decide

theorem factor_law : EntryLaw fun _ e => 2000 ≤ e.q ∧ e.q ≤ 100000 where
  event _ _ _ _ m := m.factor
  restart _ _ h := h
  tuned old e ops h := by rw [HeadRecord.tuned_eq]; exact h
  powerOn := by decide

/-! ### Each law as it is stated -/

theorem trimsWithinLimit_iff :
    TrimsWithinLimit s ↔ Entries (fun k e => k.trimLimit ≤ 500 ∧ e.trim.natAbs ≤ k.trimLimit) s :=
  ⟨fun h i => ⟨h.1, h.2 i⟩, fun h => ⟨(h 0).1, fun i => (h i).2⟩⟩

theorem serviceBelowThreshold_iff :
    ServiceBelowThreshold s ↔
      Entries (fun k e => (1 ≤ k.blockThreshold ∧ k.blockThreshold ≤ 8) ∧
        (e.service = .inService → e.faults < k.blockThreshold)) s :=
  ⟨fun h i => ⟨h.1, h.2 i⟩, fun h => ⟨(h 0).1, fun i => (h i).2⟩⟩

end Sys2Proof.Machine

namespace Sys2Proof.Proofs

open Sys2Proof.Machine

/-- Settles O59: the tracker in range is kept by every move of a step. -/
theorem stepKeepsTheTrackerInRange : Obligations.StepKeepsTheTrackerInRange := fun _ _ =>
  step_keeps (P := TrackerInRange) (fun _ _ quiet => .congr (congrArg ConfigBlock.t quiet.cfg) quiet.tracker)
    fun _ _ _ _ => .move

/-- Settles O58: every move keeps the two laws of each port. -/
theorem stepKeepsThePortsSound : Obligations.StepKeepsThePortsSound := fun _ _ h =>
  ⟨fun exclusive => step_keeps (P := PortsExclusive) (fun _ _ quiet keeps p => by rw [quiet.port p]; exact keeps p)
      (fun _ _ _ _ m keeps p => (m.port_keeps p).exclusive (keeps p)) exclusive h,
    fun own => step_keeps (P := EventsOwn) (fun _ _ quiet keeps p => by rw [quiet.port p]; exact keeps p)
      (fun _ _ _ _ m keeps p => (m.port_keeps p).own (keeps p)) own h⟩

/-- Settles O54: each law is one of every head's record, which every event, restart and tuning write keeps. -/
theorem stepKeepsTheHeadTableInRange : Obligations.StepKeepsTheHeadTableInRange := by
  refine ⟨fun s t h => ⟨fun trims => ?_, fun leads => lead_law.step leads h, fun short => history_law.step short h⟩,
    fun s t service h => ?_⟩
  · exact trimsWithinLimit_iff.mpr (trim_law.step (trimsWithinLimit_iff.mp trims) h)
  · exact serviceBelowThreshold_iff.mpr (service_law.step (serviceBelowThreshold_iff.mp service) h)

end Sys2Proof.Proofs
end

section
/-! ## The laws of the whole part: the cycles, their plans and their valves -/

namespace Sys2Proof.Machine

variable {c : Instr} {n : Nat} {s t : State}

/-! ### What a move makes of a head's cycle -/

theorem HeadMove.cycle {h : HeadId} {x y : Head} (m : HeadMove c s h x y) : CycleMove c s h x y.seq := by
  cases m with
  | stays y cycle => exact cycle
  | enters q e st cycle => exact cycle

/-- A move leaves a head's cycle, ends it by a reset, or makes of it what one event does, under the block then in
force. -/
theorem Move.cycle (m : Move c n s t) (h : HeadId) :
    (EndsCycles c ∧ (t.head h).seq = seqReset) ∨
      ∃ cfg, CycleMove c { s with cfg := cfg } h (s.head h) (t.head h).seq := by
  have same : ∀ {q : Sequencer}, q = (s.head h).seq →
      (EndsCycles c ∧ q = seqReset) ∨ ∃ cfg, CycleMove c { s with cfg := cfg } h (s.head h) q :=
    fun e => .inr ⟨s.cfg, e ▸ .refl ..⟩
  cases m with
  | tracker | mode | recipe | stack | queue | record | counts => exact same rfl
  | port p f => exact same (by rw [State.head_updPort])
  | heads f each =>
    rw [State.head_mapHeads]
    exact .inr ⟨s.cfg, (each h).cycle⟩
  | powerOn command =>
    obtain ⟨dt, rfl⟩ := command
    rw [State.head_powerOn]
    exact .inl ⟨⟨dt, false, false, false, .inl rfl⟩, rfl⟩
  | restart command =>
    obtain ⟨dt, rfl⟩ := command
    rw [State.head_restarted]
    exact .inl ⟨⟨dt, false, false, false, .inr (.inl rfl)⟩, rfl⟩
  | configure new =>
    obtain ⟨x, kept | left, seq, -⟩ := s.head_configure_cycle new h
    · exact same (by rw [seq, kept])
    · rw [seq, left]
      exact .inr ⟨new, (Head.motionLeave_move (s := { s with cfg := new })).cycle⟩
  | tune ops => exact same (by rw [State.head_tune])

/-! ### Fill counts and plans (R48, R83, R85) -/

theorem Sequencer.MeetsClose.of_no_plan {q : Sequencer} (h : q.plan = none) : q.MeetsClose := fun p hp => by
  rw [h] at hp
  cases hp

/-- Fill counts that meet their close are kept by every move. -/
theorem FillsMeetTheirClose.move (m : Move c n s t) (meets : FillsMeetTheirClose s) : FillsMeetTheirClose t := by
  intro h
  rcases m.cycle h with ⟨-, reset⟩ | ⟨_, cycle⟩
  · exact Sequencer.MeetsClose.of_no_plan (by rw [reset]; rfl)
  · exact cycle.count (meets h)

/-- A plan formed from an acceptable recipe on a head in range meets the chain of R83. -/
theorem formPlan_sound {slot : Slot} {r : Recipe} {e : HeadRecord} {t : Nat} {p : Plan} (hr : r.acceptable = true)
    (hq : 2000 ≤ e.q ∧ e.q ≤ 100000) (htrim : e.trim.natAbs ≤ 500) (hp : formPlan slot r e t = some p) : p.sound := by
  obtain ⟨volume, -⟩ := Recipe.volumes_of_acceptable hr
  have divisor := planDivisor_bounds hq htrim
  have range := formPlan_target_le hp
  have target := le_pulsesOf volume ⟨by omega, divisor.2⟩
  have close := closeThreshold_eq_max (pulsesOf r.vT (planDivisor e.q e.trim)) (leadPulses e.l16)
  rw [formPlan, if_neg (not_lt.mpr range)] at hp
  obtain rfl := Option.some.inj hp
  refine ⟨⟨?_, ?_, range⟩, ?_⟩
  · dsimp only
    omega
  · dsimp only
    omega
  · rw [switchThreshold_eq_sub]
    exact Nat.sub_le ..

/-- The recipes a move leaves are acceptable where those before it were. -/
theorem Move.recipes (m : Move c n s t) (held : ∀ slot : Slot, ∀ r, s.recipes[slot.val] = some r → r.acceptable = true)
    (slot : Slot) (r : Recipe) (hr : t.recipes[slot.val] = some r) : r.acceptable = true := by
  have initial : defaultRecipe.acceptable = true := by decide
  cases m with
  | tracker | mode | stack | queue | record | counts => exact held slot r hr
  | heads f => exact held slot r (by rwa [State.mapHeads_recipes] at hr)
  | port p f => exact held slot r (by rwa [State.updPort_recipes] at hr)
  | recipe at' new accepted =>
    change (s.recipes.set at'.val new)[slot.val] = some r at hr
    rw [Vector.getElem_set] at hr
    split at hr
    · exact accepted r hr
    · exact held slot r hr
  | powerOn =>
    have fresh := recipesPowerOn_get slot
    rw [show s.powerOn.recipes = recipesPowerOn from rfl, fresh] at hr
    split at hr
    · exact Option.some.inj hr ▸ initial
    · cases hr
  | restart =>
    rw [show s.restarted.recipes = s.restartRecipes from rfl, s.restartRecipes_get slot] at hr
    split at hr
    · exact Option.some.inj hr ▸ initial
    · exact held slot r hr
  | configure new => exact held slot r (by rwa [State.configure_recipes] at hr)
  | tune ops => exact held slot r (by rwa [State.tune_eq] at hr)

theorem storesInRange_iff :
    StoresInRange s ↔ (∀ slot : Slot, ∀ r, s.recipes[slot.val] = some r → r.acceptable = true) ∧
      Entries (fun _ e => 2000 ≤ e.q ∧ e.q ≤ 100000) s ∧
      Entries (fun k e => k.trimLimit ≤ 500 ∧ e.trim.natAbs ≤ k.trimLimit) s := by
  rw [StoresInRange, trimsWithinLimit_iff]
  rfl

theorem StoresInRange.move (m : Move c n s t) (h : StoresInRange s) : StoresInRange t := by
  obtain ⟨recipes, factors, trims⟩ := storesInRange_iff.mp h
  exact storesInRange_iff.mpr ⟨m.recipes recipes, factor_law.move m factors, trim_law.move m trims⟩

/-- Sound plans from stores in range are kept by every move. -/
theorem PlansSound.move (m : Move c n s t) (h : PlansSound s) : PlansSound t := by
  obtain ⟨stores, plans⟩ := h
  refine ⟨stores.move m, fun i p hp => ?_⟩
  rcases m.cycle i with ⟨-, reset⟩ | ⟨_, cycle⟩
  · rw [reset] at hp
    cases hp
  · rcases cycle.plan p hp with kept | ⟨slot, r, held, formed⟩
    · exact plans i p kept
    · obtain ⟨recipes, factors, limit, trims⟩ := stores
      exact formPlan_sound (recipes slot r held) (factors i) ((trims i).trans limit) formed

/-! ### SETUP and HALT (R37, R66) -/

theorem StoppedInSetupAndHalt.congr (mode : t.mode = s.mode) (heads : t.cfg.n = s.cfg.n)
    (seq : ∀ h, (t.head h).seq.state = (s.head h).seq.state) (stopped : StoppedInSetupAndHalt s) :
    StoppedInSetupAndHalt t := by
  unfold StoppedInSetupAndHalt
  simp only [mode, heads, seq]
  exact stopped

theorem StoppedInSetupAndHalt.of_idle (idle : ∀ h, (t.head h).seq.state = .idle) : StoppedInSetupAndHalt t :=
  ⟨fun _ h => by rw [idle h]; rfl, fun h _ => idle h⟩

/-- In a state that a configuration write is taken in, every head is idle (R37, R179). -/
theorem StoppedInSetupAndHalt.idle_of_not_busy (stopped : StoppedInSetupAndHalt s) (idle : s.headsBusy = false)
    (h : HeadId) : (s.head h).seq.state = .idle := by
  by_cases below : h.val < s.cfg.n
  · exact s.headsBusy_eq_false_iff.mp idle h below
  · exact stopped.2 h (not_lt.mp below)

theorem StoppedInSetupAndHalt.seq_configure {new : ConfigBlock} (stopped : StoppedInSetupAndHalt s)
    (idle : s.headsBusy = false) (h : HeadId) : ((s.configure new).head h).seq = (s.head h).seq := by
  rw [s.head_configure_idle new h (stopped.idle_of_not_busy idle h)]
  split <;> rfl

/-- SETUP and HALT free of fills is kept by every move. -/
theorem StoppedInSetupAndHalt.move (m : Move c n s t) (stopped : StoppedInSetupAndHalt s) :
    StoppedInSetupAndHalt t := by
  cases m with
  | tracker | recipe | stack | queue | record | counts => exact stopped.congr rfl rfl fun _ => rfl
  | port p f =>
    exact stopped.congr (State.updPort_mode ..) (by rw [State.updPort_cfg]) fun h => by rw [State.head_updPort]
  | mode m free => exact ⟨free stopped, stopped.2⟩
  | heads f each =>
    refine ⟨fun halted h => ?_, fun h above => ?_⟩
    · rw [State.mapHeads_mode] at halted
      rw [State.head_mapHeads, Bool.eq_false_iff]
      intro filling
      rcases (each h).cycle.underWay filling with before | production
      · rw [stopped.1 halted h] at before
        cases before
      · rw [production] at halted
        rcases halted with m | m <;> cases m
    · rw [State.mapHeads_cfg] at above
      rw [State.head_mapHeads]
      exact ((each h).cycle.idle (stopped.2 h above)).resolve_right (not_lt.mpr above)
  | powerOn => exact .of_idle fun h => by rw [State.head_powerOn]; rfl
  | restart => exact .of_idle fun h => by rw [State.head_restarted]; rfl
  | configure new _ _ idle =>
    exact .of_idle fun h => by rw [stopped.seq_configure idle, stopped.idle_of_not_busy idle]
  | tune ops =>
    exact stopped.congr (by rw [State.tune_eq]) (by rw [State.tune_eq]) fun h => by rw [State.head_tune]

/-- Outside a fill P, F and S are closed (R30). -/
theorem outputsOf_closed {st : FillState} (h : st.underWay = false) :
    (outputsOf st).p = false ∧ (outputsOf st).f = false ∧ (outputsOf st).s = false := by
  cases st with
  | idle | armed | held | settle | snift | discharge | pass => exact ⟨rfl, rfl, rfl⟩
  | pressurizing | pressurized | fillFast | fillSlow => cases h

/-! ### The valves follow the fill state (R30) -/

/-- What the four commands of a fill state are: at most one valve open, F in FILL_FAST and S in FILL_SLOW alone. -/
theorem outputsOf_one (st : FillState) :
    [(outputsOf st).p, (outputsOf st).f, (outputsOf st).s, (outputsOf st).v].count true ≤ 1 ∧
    ((outputsOf st).f = true ↔ st = .fillFast) ∧ ((outputsOf st).s = true ↔ st = .fillSlow) := by
  cases st <;> decide

theorem HeadMove.follows {h : HeadId} {x y : Head} (m : HeadMove c s h x y)
    (follows : x.iface.cmd = outputsOf x.seq.state) : y.iface.cmd = outputsOf y.seq.state := by
  cases m with
  | stays y cycle entry state cmd => rw [cmd, state, follows]
  | enters => rfl

/-- Valves that follow their states are kept by every move from a state with the heads at or above N idle. -/
theorem ValvesFollow.move (m : Move c n s t) (stopped : StoppedInSetupAndHalt s) (follow : ValvesFollow s) :
    ValvesFollow t := by
  intro h
  cases m with
  | tracker | recipe | stack | queue | record | counts | mode => exact follow h
  | port p f =>
    rw [State.head_updPort]
    exact follow h
  | heads f each =>
    rw [State.head_mapHeads]
    exact (each h).follows (follow h)
  | powerOn =>
    rw [State.head_powerOn]
    rfl
  | restart =>
    rw [State.head_restarted]
    rfl
  | configure new _ _ idle =>
    have still := stopped.idle_of_not_busy idle h
    rw [s.head_configure_idle new h still]
    split
    · change allOutputs false = outputsOf (s.head h).seq.state
      rw [still]
      rfl
    · exact follow h
  | tune ops =>
    rw [State.head_tune]
    exact follow h

end Sys2Proof.Machine

namespace Sys2Proof.Proofs

open Sys2Proof.Machine

/-- Settles O57: every move keeps the stores, forms plans from them alone, and meets each close. -/
theorem stepKeepsThePlansAndTheFillCounts : Obligations.StepKeepsThePlansAndTheFillCounts := by
  refine ⟨fun _ _ => step_keeps (P := PlansSound) (fun s u quiet sound => ?_) fun _ _ _ _ => .move,
    fun _ _ => step_keeps (P := FillsMeetTheirClose) (fun s u quiet meets h => ?_) fun _ _ _ _ => .move⟩
  · obtain ⟨⟨recipes, factors, limit, trims⟩, plans⟩ := sound
    refine ⟨⟨by rw [quiet.recipes]; exact recipes, fun h => ?_, ?_, fun h => ?_⟩, fun h => ?_⟩
    · rw [quiet.entry h]
      exact factors h
    · rw [quiet.tuning]
      exact limit
    · rw [quiet.entry h, quiet.tuning]
      exact trims h
    · rw [quiet.seq h]
      exact plans h
  · rw [quiet.seq h]
    exact meets h

theorem Quiet.stopped {s u : State} (quiet : Quiet s u) : StoppedInSetupAndHalt s → StoppedInSetupAndHalt u :=
  .congr quiet.mode (by rw [quiet.cfg]) fun h => by rw [quiet.seq h]

/-- Settles O56: a fill is under way after an event only if it was before or in PRODUCTION, and a change of the mode to
SETUP or HALT finds none. -/
theorem stepKeepsFillsOutOfSetupAndHalt : Obligations.StepKeepsFillsOutOfSetupAndHalt := by
  refine ⟨fun _ _ => step_keeps (P := StoppedInSetupAndHalt) (fun _ _ quiet => Quiet.stopped quiet) fun _ _ _ _ => .move,
    fun s stopped follow halted h => ?_⟩
  rw [follow h]
  exact outputsOf_closed (stopped.1 halted h)

/-- Settles O55: each event that changes a fill state drives the commands to those of the new one. -/
theorem stepKeepsTheValvesWithTheState : Obligations.StepKeepsTheValvesWithTheState := by
  intro s t stopped follow h
  have kept := step_keeps (P := fun s => StoppedInSetupAndHalt s ∧ ValvesFollow s)
    (fun _ _ quiet laws => ⟨Quiet.stopped quiet laws.1, fun h => by rw [quiet.cmd h, quiet.seq h]; exact laws.2 h⟩)
    (fun _ _ _ _ m laws => ⟨laws.1.move m, laws.2.move m laws.1⟩) ⟨stopped, follow⟩ h
  refine ⟨kept.2, fun i => ?_⟩
  rw [kept.2 i]
  exact outputsOf_one _

end Sys2Proof.Proofs
end

section
/-! ## The laws of the whole part: the stack and the trace queue; the reset -/

namespace Sys2Proof.Machine

variable {c : Instr} {n : Nat} {s t : State}

/-! ### The recipe stack (R124) -/

/-- A stack of between 1 and the maximum depth entries, each on a slot that stays filled. -/
theorem StackSound.of_filled (stack : t.stack = s.stack) (cfg : t.cfg.depth = s.cfg.depth)
    (filled : ∀ e ∈ s.stack.entries, s.recipes[e.slot.val].isSome = true → t.recipes[e.slot.val].isSome = true)
    (h : StackSound s) : StackSound t := by
  obtain ⟨depth, some, most, slots⟩ := h
  unfold StackSound
  rw [stack, cfg]
  exact ⟨depth, some, most, fun e he => filled e he (slots e he)⟩

theorem StackSound.congr (stack : t.stack = s.stack) (cfg : t.cfg.depth = s.cfg.depth) (recipes : t.recipes = s.recipes)
    (h : StackSound s) : StackSound t :=
  h.of_filled stack cfg fun _ _ filled => by rw [recipes]; exact filled

/-- The stack of either reset is sound beside a filled slot 0. -/
theorem StackSound.of_reset (depth : t.cfg.depth = 2 ∨ t.cfg.depth = 6) (stack : t.stack = stackReset)
    (filled : t.recipes[(0 : Slot).val].isSome = true) : StackSound t := by
  unfold StackSound
  rw [stack]
  refine ⟨depth, Nat.le_refl 1, ?_, fun e he => ?_⟩
  · rcases depth with d | d <;> rw [d] <;> decide
  · obtain rfl := List.mem_singleton.mp he
    exact filled

theorem State.restartRecipes_first : s.restartRecipes[(0 : Slot).val].isSome = true := by
  rw [s.restartRecipes_get 0]
  split
  · rfl
  · rename_i held
    exact Option.isSome_iff_ne_none.mpr fun empty => held ⟨rfl, empty⟩

theorem StackSound.configure {new : ConfigBlock} (depth : new.depth = 2 ∨ new.depth = 6) (h : StackSound s) :
    StackSound (s.configure new) := by
  obtain ⟨spilt, kept⟩ := s.configure_stack new
  obtain ⟨-, some, most, slots⟩ := h
  unfold StackSound
  rw [State.configure_cfg, State.configure_recipes]
  by_cases spills : new.depth < s.cfg.depth ∧ new.depth < s.stack.entries.length
  · rw [(spilt spills).1]
    refine ⟨depth, ?_, List.length_take_le .., fun e he => slots e (List.mem_of_mem_take he)⟩
    rw [List.length_take]
    omega
  · rw [(kept spills).1]
    exact ⟨depth, some, by omega, slots⟩

/-- A sound stack is kept by every move. -/
theorem StackSound.move (m : Move c n s t) (h : StackSound s) : StackSound t := by
  cases m with
  | tracker | mode | queue | record | counts => exact h.congr rfl rfl rfl
  | heads f => exact h.congr (State.mapHeads_stack ..) (by rw [State.mapHeads_cfg]) (State.mapHeads_recipes ..)
  | port p f => exact h.congr (State.updPort_stack ..) (by rw [State.updPort_cfg]) (State.updPort_recipes ..)
  | recipe slot r accepted free =>
    refine StackSound.of_filled (s := s) rfl rfl (fun e he filled => ?_) h
    change (s.recipes.set slot.val r)[e.slot.val].isSome = true
    rw [Vector.getElem_set]
    split
    · rename_i same
      refine Option.isSome_iff_ne_none.mpr fun empty => ?_
      have unnamed := free empty
      simp only [RecipeStack.names, List.any_eq_false, decide_eq_true_eq] at unnamed
      exact unnamed e he (Fin.ext same.symm)
    · exact filled
  | stack k sound => exact sound h
  | powerOn => exact .of_reset (.inr rfl) rfl (by rw [show s.powerOn.recipes = recipesPowerOn from rfl]; decide)
  | restart => exact .of_reset h.1 rfl State.restartRecipes_first
  | configure new command setup idle block =>
    obtain ⟨ops, accepted⟩ := block
    obtain ⟨-, -, -, -, depth, -⟩ := configOf_bounds accepted
    exact h.configure depth
  | tune ops => exact h.congr (by rw [State.tune_eq]) (by rw [State.tune_eq]) (by rw [State.tune_eq])

/-! ### What a move makes of the queue -/

/-- A move leaves the queue, changes it but for its records, takes one record more, or resets it. -/
theorem Move.queue_cases (m : Move c n s t) :
    QueueMove s.queue t.queue ∨ (∃ d, n = 1 ∧ t.queue = s.queue.accept s.cfg.traceMode d) ∨ t.queue = queueReset := by
  have same : ∀ {q}, q = s.queue → QueueMove s.queue q ∨ (∃ d, n = 1 ∧ q = s.queue.accept s.cfg.traceMode d) ∨
      q = queueReset := fun e => .inl (e ▸ ⟨.refl _, rfl, .inl rfl, id⟩)
  cases m with
  | tracker | mode | recipe | stack | counts => exact same rfl
  | heads f => exact same (State.mapHeads_queue ..)
  | port p f => exact same (State.updPort_queue ..)
  | queue q keeps => exact .inl keeps
  | record d => exact .inr (.inl ⟨d, rfl, rfl⟩)
  | powerOn | restart => exact .inr (.inr rfl)
  | configure new => exact same (State.configure_queue ..)
  | tune ops => exact same (by rw [State.tune_eq])

/-! ### The account of the records (R137, R145) -/

theorem TraceQueue.accept_held_sublist (mode : TraceMode) (d : RecordDraft) (q : TraceQueue) :
    (q.accept mode d).held.Sublist (q.held ++ [q.number d]) := by
  rcases q.accept_cases mode d with ⟨-, h⟩ | ⟨-, -, h⟩ | ⟨-, -, h⟩
  · rw [h]
  · rw [h]
    exact (List.drop_sublist ..).append (.refl _)
  · rw [h]
    exact List.sublist_append_left ..

/-- One record more, wherever it goes, is one more on each side of the account. -/
theorem TraceAccounted.record (d : RecordDraft) (h : TraceAccounted s)
    (queue : t.queue = s.queue.accept s.cfg.traceMode d) : TraceAccounted t := by
  obtain ⟨account, most⟩ := h
  unfold TraceAccounted
  rw [queue]
  rcases s.queue.accept_cases s.cfg.traceMode d with ⟨room, h⟩ | ⟨full, -, h⟩ | ⟨full, -, h⟩
  · rw [h]
    have height : (s.queue.held ++ [s.queue.number d]).length = s.queue.held.length + 1 := List.length_append
    refine ⟨?_, height.trans_le room⟩
    change s.queue.created + 1 = BitVec.ofNat 32 (s.queue.held ++ [s.queue.number d]).length + s.queue.matched +
      s.queue.expired + s.queue.evicted + s.queue.cleared + s.queue.lost
    rw [account, height, BitVec.ofNat_add]
    ac_rfl
  · have height : (s.queue.held.drop 1 ++ [s.queue.number d]).length = s.queue.held.length := by
      rw [List.length_append, List.length_drop, List.length_singleton]
      omega
    rw [h]
    refine ⟨?_, height.trans_le most⟩
    change s.queue.created + 1 = BitVec.ofNat 32 (s.queue.held.drop 1 ++ [s.queue.number d]).length + s.queue.matched +
      s.queue.expired + (s.queue.evicted + 1) + s.queue.cleared + s.queue.lost
    rw [account, height]
    ac_rfl
  · rw [h]
    refine ⟨?_, most⟩
    change s.queue.created + 1 = BitVec.ofNat 32 s.queue.held.length + s.queue.matched + s.queue.expired +
      s.queue.evicted + s.queue.cleared + (s.queue.lost + 1)
    rw [account]
    ac_rfl

/-- The account of the records is kept by every move. -/
theorem TraceAccounted.move (m : Move c n s t) (h : TraceAccounted s) : TraceAccounted t := by
  rcases m.queue_cases with keeps | ⟨d, -, queue⟩ | reset
  · exact ⟨keeps.account h.1, keeps.held.length_le.trans h.2⟩
  · exact h.record d queue
  · unfold TraceAccounted
    rw [reset]
    decide

/-! ### The order of the held records (R136, R137) -/

/-- The held records stand in order, and fewer than `b` records and serials have been given since any of them. -/
structure TraceQueue.OrderedWithin (b : Nat) (q : TraceQueue) : Prop where
  recent : ∀ r ∈ q.held, (q.created - r.seq).toNat < b
  given : ∀ x ∈ q.serials, serialAge q.nextSerial x < b
  seqs : q.held.Pairwise fun older newer => (q.created - newer.seq).toNat < (q.created - older.seq).toNat
  serials : q.serials.Pairwise fun older newer => serialAge q.nextSerial newer < serialAge q.nextSerial older
  next : q.nextSerial ≠ 0
  nonzero : ∀ x ∈ q.serials, x ≠ 0

theorem orderedWithin_of_held {b : Nat} (hb : 2147483648 ≤ b) (recently : HeldRecently s) (order : HeldInOrder s) :
    s.queue.OrderedWithin b := by
  obtain ⟨recent, given⟩ := recently
  obtain ⟨seqs, serials, next, nonzero⟩ := order
  exact ⟨fun r hr => (recent r hr).trans_le hb, fun x hx => (given x hx).trans_le hb, seqs, serials, next, nonzero⟩

theorem TraceQueue.OrderedWithin.held {b : Nat} (h : s.queue.OrderedWithin b) : HeldInOrder s :=
  ⟨h.seqs, h.serials, h.next, h.nonzero⟩

theorem TraceQueue.OrderedWithin.mono {b b' : Nat} {q : TraceQueue} (h : q.OrderedWithin b) (hb : b ≤ b') :
    q.OrderedWithin b' :=
  ⟨fun r hr => (h.recent r hr).trans_le hb, fun x hx => (h.given x hx).trans_le hb, h.seqs, h.serials, h.next,
    h.nonzero⟩

/-- Fewer records in the same order, with the numbers as they were. -/
theorem TraceQueue.OrderedWithin.sublist {b : Nat} {q q' : TraceQueue} (h : q.OrderedWithin b)
    (held : q'.held.Sublist q.held) (created : q'.created = q.created) (next : q'.nextSerial = q.nextSerial) :
    q'.OrderedWithin b := by
  have serials : q'.serials.Sublist q.serials := held.filterMap _
  refine ⟨fun r hr => ?_, fun x hx => ?_, ?_, ?_, ?_, fun x hx => h.nonzero x (serials.subset hx)⟩
  · rw [created]
    exact h.recent r (held.subset hr)
  · rw [next]
    exact h.given x (serials.subset hx)
  · rw [created]
    exact h.seqs.sublist held
  · rw [next]
    exact h.serials.sublist serials
  · rw [next]
    exact h.next

theorem TraceQueue.OrderedWithin.of_empty {b : Nat} {q : TraceQueue} (held : q.held = []) (next : q.nextSerial ≠ 0) :
    q.OrderedWithin b := by
  have serials : q.serials = [] := by rw [TraceQueue.serials, held]; rfl
  exact ⟨by simp [held], by simp [serials], by simp [held], by simp [serials], next, by simp [serials]⟩

/-- One record given later, a record is one further behind the newest. -/
theorem seqAge_succ {a x : U32} (h : (a - x).toNat < 4294967294) : (a + 1 - x).toNat = (a - x).toNat + 1 := by
  bv_omega

/-- One serial given later, a serial is one further behind; the serial 0 is never given (R136). -/
theorem serialAge_succ {next x : U32} (hn : next ≠ 0) (hx : x ≠ 0) (h : serialAge next x < 4294967294) :
    serialAge (nextSerialAfter next) x = serialAge next x + 1 := by
  have positive : 0 < next.toNat := by bv_omega
  have positive' : 0 < x.toNat := by bv_omega
  have after : (nextSerialAfter next).toNat = if next.toNat = 4294967295 then 1 else next.toNat + 1 := by
    unfold nextSerialAfter
    split
    · rename_i last
      simp [last]
    · rename_i inside
      rw [if_neg (by bv_omega)]
      bv_omega
  have below := next.isLt
  have below' := x.isLt
  unfold serialAge at h ⊢
  rw [after]
  split
  · omega
  · omega

/-- The serial just given is the newest. -/
theorem serialAge_given {next : U32} (hn : next ≠ 0) : serialAge (nextSerialAfter next) next = 0 := by
  have positive : 0 < next.toNat := by bv_omega
  unfold serialAge nextSerialAfter
  split
  · rename_i last
    simp [last]
  · have : (next + 1).toNat = next.toNat + 1 := by bv_omega
    omega

theorem nextSerialAfter_ne_zero (x : U32) : nextSerialAfter x ≠ 0 := by
  unfold nextSerialAfter
  split
  · decide
  · bv_omega

/-- A list in descending distance that moves one further back and takes a new member at distance 0. -/
theorem pairwise_append_newest {α : Type} {l : List α} {a : α} {age age' : α → Nat}
    (order : l.Pairwise fun older newer => age newer < age older) (back : ∀ x ∈ l, age' x = age x + 1)
    (newest : age' a = 0) : (l ++ [a]).Pairwise fun older newer => age' newer < age' older := by
  rw [List.pairwise_append]
  refine ⟨order.imp_of_mem fun hx hy h => ?_, List.pairwise_singleton .., fun x hx y hy => ?_⟩
  · rw [back _ hx, back _ hy]
    exact Nat.succ_lt_succ h
  · rw [List.mem_singleton.mp hy, newest, back x hx]
    exact Nat.succ_pos _

/-- A record appended with its numbers stands in order behind those held. -/
theorem TraceQueue.OrderedWithin.append {b : Nat} {q : TraceQueue} (h : q.OrderedWithin b) (hb : b ≤ 4294967294)
    (d : RecordDraft) : TraceQueue.OrderedWithin (b + 1) { q.counted d with held := q.held ++ [q.number d] } := by
  have back : ∀ r ∈ q.held, (q.created + 1 - r.seq).toNat = (q.created - r.seq).toNat + 1 := fun r hr =>
    seqAge_succ ((h.recent r hr).trans_le hb)
  have newest : (q.created + 1 - (q.number d).seq).toNat = 0 := by simp [TraceQueue.number, TraceQueue.seqCounter]
  have recent : ∀ r ∈ q.held ++ [q.number d], (q.created + 1 - r.seq).toNat < b + 1 := by
    intro r hr
    rcases List.mem_append.mp hr with held | new
    · rw [back r held]
      exact Nat.succ_lt_succ (h.recent r held)
    · rw [List.mem_singleton.mp new, newest]
      exact Nat.succ_pos b
  have seqs := pairwise_append_newest h.seqs back newest
  by_cases named : d.hasSerial = true
  · have next : (q.counted d).nextSerial = nextSerialAfter q.nextSerial := if_pos named
    have serials : (q.held ++ [q.number d]).filterMap TraceRecord.serial = q.serials ++ [q.nextSerial] := by
      simp [TraceQueue.serials, TraceQueue.number, named]
    have older : ∀ x ∈ q.serials, serialAge (nextSerialAfter q.nextSerial) x = serialAge q.nextSerial x + 1 :=
      fun x hx => serialAge_succ h.next (h.nonzero x hx) ((h.given x hx).trans_le hb)
    have given := serialAge_given h.next
    refine ⟨recent, ?_, seqs, ?_, ?_, ?_⟩
    · intro x hx
      change x ∈ (q.held ++ [q.number d]).filterMap TraceRecord.serial at hx
      change serialAge (q.counted d).nextSerial x < b + 1
      rw [serials] at hx
      rw [next]
      rcases List.mem_append.mp hx with held | new
      · rw [older x held]
        exact Nat.succ_lt_succ (h.given x held)
      · rw [List.mem_singleton.mp new, given]
        exact Nat.succ_pos b
    · change ((q.held ++ [q.number d]).filterMap TraceRecord.serial).Pairwise _
      rw [serials]
      simp only [next]
      exact pairwise_append_newest h.serials older given
    · rw [next]
      exact nextSerialAfter_ne_zero _
    · intro x hx
      change x ∈ (q.held ++ [q.number d]).filterMap TraceRecord.serial at hx
      rw [serials] at hx
      rcases List.mem_append.mp hx with held | new
      · exact h.nonzero x held
      · rw [List.mem_singleton.mp new]
        exact h.next
  · have next : (q.counted d).nextSerial = q.nextSerial := if_neg named
    have serials : TraceQueue.serials { q.counted d with held := q.held ++ [q.number d] } = q.serials := by
      simp [TraceQueue.serials, TraceQueue.number, named]
    refine ⟨recent, ?_, seqs, ?_, ?_, ?_⟩
    · intro x hx
      rw [serials] at hx
      rw [next]
      exact (h.given x hx).trans (Nat.lt_succ_self b)
    · rw [serials]
      simp only [next]
      exact h.serials
    · rw [next]
      exact h.next
    · rw [serials]
      exact h.nonzero

/-- One move keeps the order and takes the held records no further back than by the records it makes. -/
theorem TraceQueue.OrderedWithin.move {b : Nat} (m : Move c n s t) (h : s.queue.OrderedWithin b)
    (hb : b ≤ 4294967294) : t.queue.OrderedWithin (b + n) := by
  rcases m.queue_cases with keeps | ⟨d, one, queue⟩ | reset
  · rcases keeps.serial with next | ⟨empty, next⟩
    · exact (h.sublist keeps.held keeps.created next).mono (Nat.le_add_right ..)
    · exact .of_empty empty next
  · subst one
    rw [queue]
    obtain ⟨created, next, -⟩ := s.queue.accept_numbers s.cfg.traceMode d
    exact (h.append hb d).sublist (s.queue.accept_held_sublist _ d) created next
  · rw [reset]
    exact .of_empty rfl (by decide)

theorem TraceQueue.OrderedWithin.run {b k : Nat} (r : Run c k s t) (h : s.queue.OrderedWithin b)
    (hb : b + k ≤ 4294967294) : t.queue.OrderedWithin (b + k) := by
  induction r generalizing b with
  | refl k s => exact h.mono (Nat.le_add_right ..)
  | @cons n k s t u first rest ih =>
    rw [← Nat.add_assoc] at hb ⊢
    exact ih (h.move first (by omega)) hb

/-- A command from a state in order and in range keeps the order: it makes too few records to bring the numbers
round. -/
theorem heldInOrder_exec (ran : Ran c s t) (range : TrackerInRange s) (recently : HeldRecently s)
    (order : HeldInOrder s) : HeldInOrder t := by
  obtain ⟨u, quiet, -, -, b, run, bound⟩ := ran.run
  have within := orderedWithin_of_held (Nat.le_refl _) recently order
  rw [← quiet.queue] at within
  have few := bound range
  exact (within.run run (by omega)).held

/-! ### The reset -/

theorem State.head_reset (h : HeadId) : State.reset.head h = headPowerOn false (allOutputs false) := by
  simp [State.head, State.reset]

theorem entries_reset {P : TuningBlock → HeadRecord → Prop} (law : EntryLaw P) : Entries P State.reset := fun h => by
  rw [State.head_reset]
  exact law.powerOn

end Sys2Proof.Machine

namespace Sys2Proof.Proofs

open Sys2Proof.Machine

/-- Settles O53: stack and account are kept by every move; the held records stay in order because each new record
stands behind those held, and one command makes too few of them to bring the numbers round. -/
theorem stepKeepsTheStackAndTheTraceAccount : Obligations.StepKeepsTheStackAndTheTraceAccount := by
  refine ⟨fun _ _ => step_keeps (P := StackSound) (fun _ _ quiet => ?_) fun _ _ _ _ => .move,
    fun _ _ => step_keeps (P := TraceAccounted) (fun _ _ quiet => ?_) fun _ _ _ _ => .move,
    fun s t range recently order h => ?_⟩
  · exact .congr quiet.stack (by rw [quiet.cfg]) quiet.recipes
  · unfold TraceAccounted
    rw [quiet.queue]
    exact id
  · unfold step at h
    split at h
    · exact next_eq h ▸ order
    · exact heldInOrder_exec (exec_ran h) range recently order

/-- Settles O60: the reset values meet each law. -/
theorem resetMeetsEveryLaw : Obligations.ResetMeetsEveryLaw := by
  have recipes : ∀ slot : Slot, ∀ r, State.reset.recipes[slot.val] = some r → r.acceptable = true := by
    intro slot r hr
    rw [show State.reset.recipes = recipesPowerOn from rfl, recipesPowerOn_get] at hr
    split at hr
    · exact Option.some.inj hr ▸ by decide
    · cases hr
  have trims : TrimsWithinLimit State.reset := trimsWithinLimit_iff.mpr (entries_reset trim_law)
  have queue : State.reset.queue.OrderedWithin 2147483648 := .of_empty rfl (by decide)
  have ports : ∀ p, State.reset.port p = portPowerOn := fun p => by cases p <;> rfl
  have idle : ∀ h, (State.reset.head h).seq = seqReset := fun h => by rw [State.head_reset]; rfl
  exact ⟨.of_reset (.inr rfl) rfl (by rw [show State.reset.recipes = recipesPowerOn from rfl]; decide),
    ⟨rfl, Nat.zero_le _⟩, ⟨queue.recent, queue.given⟩, queue.held, trims,
    entries_reset lead_law, entries_reset history_law, serviceBelowThreshold_iff.mpr (entries_reset service_law),
    fun h => by rw [State.head_reset]; rfl, .of_idle fun h => by rw [idle]; rfl,
    ⟨⟨recipes, entries_reset factor_law, trims⟩, fun h p hp => by rw [idle] at hp; cases hp⟩,
    fun h => Sequencer.MeetsClose.of_no_plan (by rw [idle]; rfl), fun p _ => by rw [ports]; rfl,
    fun p => by rw [ports]; exact ⟨BitVec.zero_and, BitVec.zero_and⟩, .of_zero (by decide) rfl rfl (by decide)⟩

end Sys2Proof.Proofs
end

section
/-! ## What every command keeps: time, outcomes, epochs, and the timers of changed commands -/

namespace Sys2Proof.Machine

variable {c : Instr} {n : Nat} {s t : State}

/-! ### Commands complete (R21) -/

/-- A command on a head position is one shape: it stops on a position the part does not have. -/
theorem exec_on_head {h : Nat} (named : c.head? = some h) (s : State) : ∃ f x, exec c s = onHead h f x := by
  cases c with
  | noFlowExpiry dt k =>
    obtain rfl := Option.some.inj named
    exact ⟨fun i x => x.updHead i (Head.onNoFlow x.now x.cfg), s.elapse dt, rfl⟩
  | holdExpiry dt k =>
    obtain rfl := Option.some.inj named
    exact ⟨fun i x => x.updHead i (Head.onHold x.now x.cfg), s.elapse dt, rfl⟩
  | settleTimerExpiry dt k =>
    obtain rfl := Option.some.inj named
    exact ⟨fun i x => x.updHead i (Head.onSettled x.now x.cfg), s.elapse dt, rfl⟩
  | meterPulse | psPinChange | pressureFilterExpiry | valveSettleExpiry | coilSenseChange | sniftTimerExpiry =>
    obtain rfl := Option.some.inj named
    exact ⟨_, _, rfl⟩
  | _ => cases named

theorem execEncoderCount_next (dt : Nat) (a b infeed : Bool) (s : State) :
    ∃ t, execEncoderCount dt a b infeed s = .next t := by
  simp only [execEncoderCount]
  split <;> exact ⟨_, rfl⟩

/-- A command that names no head position answers a next state. -/
theorem exec_without_head (named : c.head? = none) (s : State) : ∃ t, exec c s = .next t := by
  cases c with
  | meterPulse | psPinChange | pressureFilterExpiry | valveSettleExpiry | coilSenseChange | noFlowExpiry | holdExpiry
  | settleTimerExpiry | sniftTimerExpiry => cases named
  | encoderCount dt a b infeed => exact execEncoderCount_next ..
  | _ => exact ⟨_, rfl⟩

theorem exec_next_of_wellFormed (h : c.wellFormed = true) (s : State) : ∃ t, exec c s = .next t := by
  unfold Instr.wellFormed at h
  split at h
  · rename_i k named
    obtain ⟨f, x, shape⟩ := exec_on_head named s
    exact ⟨_, shape.trans (onHead_val x ⟨k, of_decide_eq_true h⟩ f)⟩
  · rename_i named
    exact exec_without_head named s

/-! ### Time and the queue of commands -/

theorem Move.now_pending (m : Move c n s t) : t.now = s.now ∧ t.pending = s.pending := by
  cases m with
  | tracker | mode | recipe | stack | queue | record | counts | powerOn | restart => exact ⟨rfl, rfl⟩
  | heads f => exact ⟨State.mapHeads_now .., State.mapHeads_pending ..⟩
  | port p f => exact ⟨State.updPort_now .., State.updPort_pending ..⟩
  | configure new => exact ⟨State.configure_now .., State.configure_pending ..⟩
  | tune ops => exact ⟨by rw [State.tune_eq], by rw [State.tune_eq]⟩

theorem Run.now_pending {b : Nat} (r : Run c b s t) : t.now = s.now ∧ t.pending = s.pending :=
  r.keeps (P := fun u => u.now = s.now ∧ u.pending = s.pending)
    (fun _ _ _ m kept => ⟨m.now_pending.1.trans kept.1, m.now_pending.2.trans kept.2⟩) ⟨rfl, rfl⟩

theorem Ran.now_pending (ran : Ran c s t) : t.now = s.now + elapsedOf c ∧ t.pending = s.pending := by
  obtain ⟨u, -, now, pending, b, run, -⟩ := ran.run
  exact ⟨run.now_pending.1.trans now, run.now_pending.2.trans pending⟩

/-! ### Outcomes (R62) -/

/-- A command that ends no cycle keeps the outcome of a cycle past ARMED. -/
theorem Ran.outcome (ran : Ran c s t) (goes : ¬ EndsCycles c) {h : HeadId} {o : FillOutcome}
    (set : (s.head h).seq.outcome = some o) (past : (s.head h).seq.state ≠ .armed) :
    (t.head h).seq.outcome = some o := by
  obtain ⟨u, quiet, -, -, b, run, -⟩ := ran.run
  refine (run.keeps (P := fun x => (x.head h).seq.outcome = some o ∧ (x.head h).seq.state ≠ .armed)
    (fun _ x y m kept => ?_) ?_).1
  · rcases m.cycle h with ⟨ends, -⟩ | ⟨_, cycle⟩
    · exact absurd ends goes
    · exact cycle.outcome.resolve_left goes o kept.1 kept.2
  · rw [quiet.seq h]
    exact ⟨set, past⟩

/-- An outcome that is set stands through the settle end (R62). -/
theorem settleEnd_outcome {x : Head} {o : FillOutcome} (set : x.seq.outcome = some o) :
    (settleEnd x).seq.outcome = some o := by
  cases plan : x.seq.plan with
  | none => simpa only [settleEnd, plan] using set
  | some p =>
    rw [settleEnd_eq plan]
    exact Sequencer.outcome_setOutcome _ _ _ set

theorem Head.onPress_outcome (now : Nat) (cfg : ConfigBlock) {x : Head} {o : FillOutcome}
    (set : x.seq.outcome = some o) : (x.onPress now cfg).seq.outcome = some o := by
  unfold Head.onPress
  split
  · split
    · rw [Head.enter_pressurizing_switchAssert]
      exact set
    · exact set
  · exact set

theorem Head.onFill_outcome (now : Nat) (cfg : ConfigBlock) {x : Head} {o : FillOutcome}
    (set : x.seq.outcome = some o) : (x.onFill now cfg).seq.outcome = some o := by
  unfold Head.onFill
  split
  · split
    · exact set
    · exact set
  · rw [Head.endWith_outcome, set]
    rfl
  · exact set

theorem Head.onClose_outcome (now : Nat) (cfg : ConfigBlock) {x : Head} {o : FillOutcome}
    (set : x.seq.outcome = some o) : (x.onClose now cfg).seq.outcome = some o := by
  unfold Head.onClose
  split
  · exact Sequencer.outcome_setOutcome _ _ _ set
  · exact Sequencer.outcome_setOutcome _ _ _ set
  · exact set

theorem Head.onSnift_outcome (now : Nat) (cfg : ConfigBlock) {x : Head} {o : FillOutcome}
    (set : x.seq.outcome = some o) : (x.onSnift now cfg).seq.outcome = some o := by
  unfold Head.onSnift
  split
  · split
    · exact settleEnd_outcome (x := { x with seq := { x.seq with sniftAngle := true } }) set
    · exact set
  · exact set

/-- A record leaves its head idle (R70). -/
theorem State.makeRecord_seq (cleared : Bool) (h : HeadId) (s : State) :
    ((s.makeRecord cleared h).head h).seq = seqReset := by
  unfold State.makeRecord
  split
  · rw [State.head_updHead_same]
    rfl
  · simp only [State.head_updHead_same]
    rfl

@[simp] theorem State.head_drainCheck (s : State) (h : HeadId) : s.drainCheck.head h = s.head h := by
  unfold State.drainCheck
  split
  · rw [State.head_setMode]
  · rfl

/-- A release makes a record, from DISCHARGE, PASS, SNIFT or SETTLE, or does nothing (R61). -/
theorem State.seq_onRelease (h : HeadId) (s : State) :
    ((s.onRelease h).head h).seq = seqReset ∨ s.onRelease h = s := by
  unfold State.onRelease
  split
  · exact .inl (State.makeRecord_seq ..)
  · exact .inl (State.makeRecord_seq ..)
  · rw [State.head_drainCheck]
    exact .inl (State.makeRecord_seq ..)
  · rw [State.head_drainCheck]
    exact .inl (State.makeRecord_seq ..)
  · exact .inr rfl

/-- A boundary leaves an outcome that is set, or makes the head idle (R62). -/
theorem State.onBoundary_outcome (h : HeadId) (b : Boundary) {o : FillOutcome}
    (set : (s.head h).seq.outcome = some o) (busy : (s.head h).seq.state ≠ .idle) :
    ((s.onBoundary h b).head h).seq.outcome = some o ∨ ((s.onBoundary h b).head h).seq.state = .idle := by
  cases b with
  | infeed =>
    rw [State.onBoundary, s.onInfeed_of_not_idle h busy, State.seq_dripCheck]
    exact .inl set
  | press =>
    rw [State.onBoundary, State.head_updHead_same]
    exact .inl (Head.onPress_outcome _ _ set)
  | fill =>
    rw [State.onBoundary, State.head_updHead_same]
    exact .inl (Head.onFill_outcome _ _ set)
  | close =>
    rw [State.onBoundary, State.head_updHead_same]
    exact .inl (Head.onClose_outcome _ _ set)
  | snift =>
    rw [State.onBoundary, State.head_updHead_same]
    exact .inl (Head.onSnift_outcome _ _ set)
  | release =>
    rw [State.onBoundary]
    rcases s.seq_onRelease h with idle | same
    · exact .inr (by rw [idle]; rfl)
    · exact .inl (by rw [same]; exact set)

/-! ### Epochs (R105) -/

/-- The record keeps its calibration and its epoch, or moves its epoch by one. -/
def EpochFollows (e e' : HeadRecord) : Prop :=
  (calibration e' = calibration e ∧ e'.epoch = e.epoch) ∨ e'.epoch = e.epoch + 1

theorem EpochFollows.refl (e : HeadRecord) : EpochFollows e e := .inl ⟨rfl, rfl⟩

theorem EpochFollows.tuned (old new : TuningBlock) (e : HeadRecord) : EpochFollows e (e.tuned old new) := by
  rw [HeadRecord.tuned_eq]
  by_cases moved : new.trimLimit < old.trimLimit ∧ new.trimLimit < e.trim.natAbs
  · exact .inr (if_pos moved)
  · refine .inl ⟨?_, if_neg moved⟩
    simp only [if_neg moved]
    rfl

theorem EpochFollows.reported (cl : Classification) (d : RecordDraft) (deviation : Int) (gain limit : Nat)
    (e : HeadRecord) : EpochFollows e (e.reported cl d deviation gain limit) := by
  by_cases applied : cl = .applied
  · exact .inr (if_pos applied)
  · refine .inl ⟨?_, if_neg applied⟩
    simp only [HeadRecord.reported, if_neg applied]
    rfl

theorem EpochFollows.updEntry {i : HeadId} {f : HeadRecord → HeadRecord}
    (hf : EpochFollows (s.head i).entry (f (s.head i).entry)) (h : HeadId) :
    EpochFollows (s.head h).entry ((s.updEntry i f).head h).entry := by
  by_cases same : i = h
  · subst same
    rw [State.head_updEntry_same]
    exact hf
  · rw [State.head_updEntry_other _ _ _ _ same]
    exact .refl _

/-- A completion whose block moves epochs with calibrations does too. -/
theorem EpochFollows.complete {p : Port} {r : Request} {lengths : List Nat}
    {serve : List Byte → State → Response × State} (h : HeadId)
    (served : ∀ ops, EpochFollows (s.head h).entry ((serve ops s).2.head h).entry) :
    EpochFollows (s.head h).entry ((s.complete p r lengths serve).head h).entry := by
  rcases s.complete_cases p r lengths serve with same | ⟨ops, -, ⟨-, refused⟩ | ⟨-, answered⟩⟩
  · rw [same]
    exact .refl _
  · rw [refused, State.head_finish]
    exact .refl _
  · rw [answered, State.head_finish]
    exact served ops

theorem EpochFollows.onHeadOperand {ops : List Byte} {serve : HeadId → Response × State} {h : HeadId}
    (served : ∀ i, EpochFollows (s.head h).entry ((serve i).2.head h).entry) :
    EpochFollows (s.head h).entry ((onHeadOperand ops s serve).2.head h).entry := by
  unfold Machine.onHeadOperand
  split
  · exact .refl _
  · exact served _

theorem EpochFollows.serveHeadCalWrite (ops : List Byte) (h : HeadId) :
    EpochFollows (s.head h).entry ((serveHeadCalWrite ops s).2.head h).entry := by
  refine .onHeadOperand fun i => ?_
  dsimp only
  split
  · exact .updEntry (.inr rfl) h
  · exact .refl _

theorem EpochFollows.serveHeadTrimSet (ops : List Byte) (h : HeadId) :
    EpochFollows (s.head h).entry ((serveHeadTrimSet ops s).2.head h).entry := by
  refine .onHeadOperand fun i => ?_
  split
  · exact .refl _
  · exact .updEntry (.inr rfl) h

theorem EpochFollows.serveLevelReport (ops : List Byte) (h : HeadId) :
    EpochFollows (s.head h).entry ((serveLevelReport ops s).2.head h).entry := by
  by_cases zero : serialOperand ops = 0
  · rw [Machine.serveLevelReport, if_pos zero]
    exact .refl _
  · cases found : s.queue.find (serialOperand ops) with
    | none =>
      rw [Machine.serveLevelReport, if_neg zero, State.report, found]
      exact .refl _
    | some r =>
      rw [serveLevelReport_of_find zero found]
      exact EpochFollows.updEntry (s := { s with queue := s.queue.retire (serialOperand ops) })
        (.reported ..) h

theorem EpochFollows.of_calibrates (writes : Calibrates c) (hx : exec c s = .next t) (h : HeadId) :
    EpochFollows (s.head h).entry (t.head h).entry := by
  obtain ⟨dt, rfl | rfl | rfl | rfl⟩ := writes
  · exact next_eq hx ▸ .complete (s := s.elapse dt) h fun ops => .serveHeadCalWrite ops h
  · exact next_eq hx ▸ .complete (s := s.elapse dt) h fun ops => .serveHeadTrimSet ops h
  · refine next_eq hx ▸ .complete (s := s.elapse dt) h fun ops => ?_
    rw [serveTuningWrite, State.head_tune]
    exact .tuned ..
  · exact next_eq hx ▸ .complete (s := s.elapse dt) h fun ops => .serveLevelReport ops h

/-- A move of any other command keeps calibration and epoch, power-on apart (R93, R105). -/
theorem Move.calibration_keeps (m : Move c n s t) (other : ¬ Calibrates c) (on : ∀ dt, c ≠ .powerOnReset dt)
    (h : HeadId) :
    calibration (t.head h).entry = calibration (s.head h).entry ∧ (t.head h).entry.epoch = (s.head h).entry.epoch := by
  cases m with
  | tracker | mode | recipe | stack | queue | record | counts => exact ⟨rfl, rfl⟩
  | heads f each =>
    rw [State.head_mapHeads]
    exact (each h).entry.epoch.resolve_left other
  | port p f =>
    rw [State.head_updPort]
    exact ⟨rfl, rfl⟩
  | powerOn command =>
    obtain ⟨dt, command⟩ := command
    exact absurd command (on dt)
  | restart =>
    rw [State.head_restarted]
    exact ⟨rfl, rfl⟩
  | configure new =>
    rw [State.entry_configure]
    exact ⟨rfl, rfl⟩
  | tune ops command => exact absurd command other

theorem Ran.calibration_keeps (ran : Ran c s t) (other : ¬ Calibrates c) (on : ∀ dt, c ≠ .powerOnReset dt)
    (h : HeadId) :
    calibration (t.head h).entry = calibration (s.head h).entry ∧ (t.head h).entry.epoch = (s.head h).entry.epoch := by
  obtain ⟨u, quiet, -, -, b, run, -⟩ := ran.run
  refine run.keeps (P := fun x => calibration (x.head h).entry = calibration (s.head h).entry ∧
    (x.head h).entry.epoch = (s.head h).entry.epoch) (fun _ x y m kept => ?_) ?_
  · obtain ⟨same, epoch⟩ := m.calibration_keeps other on h
    exact ⟨same.trans kept.1, epoch.trans kept.2⟩
  · rw [quiet.entry h]
    exact ⟨rfl, rfl⟩

/-! ### Settle timers (R31) -/

/-- The commands that bring heads to CLOSED without a settle timer (R21, R22). -/
def ClosesAtOnce (c : Instr) : Prop := ∃ dt, c = .powerOnReset dt ∨ c = .restart dt ∨ c = .configWrite dt

/-- Output `o` of interface `i` still has command `cmd`, or its settle timer was started at `now`. -/
def Iface.Started (now settle : Nat) (o : Output) (cmd : Bool) (i : Iface) : Prop :=
  i.cmd.get o = cmd ∨ i.settle.get o = some ⟨now, settle * 1000⟩

/-- Driving the commands starts the timer of each that changes. -/
theorem Iface.Started.drive {now : Nat} {o : Output} {cmd : Bool} {i : Iface} (cfg : ConfigBlock) (new : Outputs Bool)
    (started : i.Started now cfg.valveSettle o cmd) : (i.drive now cfg new).Started now cfg.valveSettle o cmd := by
  have timer : (i.drive now cfg new).settle.get o =
      settleOnChange now cfg (i.cmd.get o) (new.get o) (i.settle.get o) := by cases o <;> rfl
  by_cases same : i.cmd.get o = new.get o
  · rcases started with kept | running
    · exact .inl (same.symm.trans kept)
    · exact .inr (timer.trans ((if_pos same).trans running))
  · exact .inr (timer.trans (if_neg same))

theorem HeadMove.started {h : HeadId} {x y : Head} {o : Output} {cmd : Bool} (m : HeadMove c s h x y)
    (started : x.iface.Started s.now s.cfg.valveSettle o cmd) :
    y.iface.Started s.now s.cfg.valveSettle o cmd := by
  cases m with
  | stays y cycle entry state same settle =>
    unfold Iface.Started
    rw [same, settle]
    exact started
  | enters q e st => exact started.drive ..

/-- A move keeps time and block, and starts the timer of each output it changes. -/
theorem Move.started (m : Move c n s t) (other : ¬ ClosesAtOnce c) {h : HeadId} {o : Output} {cmd : Bool}
    (started : (s.head h).iface.Started s.now s.cfg.valveSettle o cmd) :
    t.now = s.now ∧ t.cfg = s.cfg ∧ (t.head h).iface.Started s.now s.cfg.valveSettle o cmd := by
  refine ⟨m.now_pending.1, ?_⟩
  cases m with
  | tracker | mode | recipe | stack | queue | record | counts => exact ⟨rfl, started⟩
  | heads f each =>
    rw [State.head_mapHeads]
    exact ⟨State.mapHeads_cfg .., (each h).started started⟩
  | port p f =>
    rw [State.head_updPort]
    exact ⟨State.updPort_cfg .., started⟩
  | powerOn command =>
    obtain ⟨dt, command⟩ := command
    exact absurd ⟨dt, .inl command⟩ other
  | restart command =>
    obtain ⟨dt, command⟩ := command
    exact absurd ⟨dt, .inr (.inl command)⟩ other
  | configure new command =>
    obtain ⟨dt, command⟩ := command
    exact absurd ⟨dt, .inr (.inr command)⟩ other
  | tune ops =>
    rw [State.head_tune]
    exact ⟨by rw [State.tune_eq], started⟩

theorem Ran.started (ran : Ran c s t) (other : ¬ ClosesAtOnce c) (h : HeadId) (o : Output) :
    (t.head h).iface.Started t.now s.cfg.valveSettle o ((s.head h).iface.cmd.get o) := by
  obtain ⟨u, quiet, -, -, b, run, -⟩ := ran.run
  have kept := run.keeps (P := fun x => x.cfg = s.cfg ∧
      (x.head h).iface.Started x.now x.cfg.valveSettle o ((s.head h).iface.cmd.get o)) (fun _ x y m kept => by
    obtain ⟨now, cfg, started⟩ := m.started other kept.2
    rw [now, cfg]
    exact ⟨kept.1, started⟩) ⟨quiet.cfg, .inl (by rw [quiet.cmd h])⟩
  rw [kept.1] at kept
  exact kept.2

end Sys2Proof.Machine

namespace Sys2Proof.Proofs

open Sys2Proof.Machine

/-- Settles O1: the two branches of `step`. -/
theorem stepTakesTheFrontCommand : Obligations.StepTakesTheFrontCommand :=
  ⟨fun _ _ _ => rfl, fun s empty => by rw [step, empty]⟩

/-- Settles O2: a command is of one of two shapes, and no move of it touches the time or the queue of commands. -/
theorem wellFormedCommandsComplete : Obligations.WellFormedCommandsComplete := by
  refine fun c s => ⟨fun formed => ?_, fun h named above => ?_⟩
  · obtain ⟨t, next⟩ := exec_next_of_wellFormed formed s
    exact ⟨t, next, (exec_ran next).now_pending⟩
  · obtain ⟨f, x, shape⟩ := exec_on_head named s
    rw [shape, onHead_ge x f above]

/-- Settles O20: a command changes only where an event drives it, which starts its timer at the same time. -/
theorem commandChangesStartTheirTimers : Obligations.CommandChangesStartTheirTimers := by
  intro c s t next other h o changed
  refine ((exec_ran next).started ?_ h o).resolve_left changed
  rintro ⟨dt, on | restart | configure⟩
  · exact (other dt).1 on
  · exact (other dt).2.1 restart
  · exact (other dt).2.2 configure

/-- Settles O28: no event of a cycle replaces an outcome, and the commands that end cycles do so at their releases. -/
theorem outcomesStandOnceSet : Obligations.OutcomesStandOnceSet := by
  refine ⟨fun c s t next other h o set past => (exec_ran next).outcome ?_ set past,
    fun h b s o set busy => s.onBoundary_outcome h b set busy⟩
  rintro ⟨dt, a, b, infeed, on | restart | clear | count | index⟩
  · exact (other dt a b infeed).1 on
  · exact (other dt a b infeed).2.1 restart
  · exact (other dt a b infeed).2.2.1 clear
  · exact (other dt a b infeed).2.2.2.1 count
  · exact (other dt a b infeed).2.2.2.2 index

/-- Settles O36: the four requests that write a calibration move an epoch by one with it; every other command but
power-on leaves both. -/
theorem epochsFollowTheCalibration : Obligations.EpochsFollowTheCalibration := by
  intro c s t next on h before after
  by_cases writes : Calibrates c
  · rcases EpochFollows.of_calibrates writes next h with ⟨same, epoch⟩ | moved
    · exact ⟨fun changed => absurd same changed, .inl epoch, fun _ => writes⟩
    · exact ⟨fun _ => moved, .inr moved, fun _ => writes⟩
  · obtain ⟨same, epoch⟩ := (exec_ran next).calibration_keeps writes on h
    exact ⟨fun changed => absurd same changed, .inl epoch, fun changed => absurd epoch changed⟩

end Sys2Proof.Proofs
end

section
/-! ## What every completion does (R195, R196, R203) -/

namespace Sys2Proof.Machine

variable {c : Instr} {s t : State}

/-! ### Answers other than OK carry no data (R203) -/

/-- A response carries data only when it is OK. -/
def Response.Plain (a : Response) : Prop := a.status ≠ .ok → a.data = []

theorem Response.Plain.ok (data : List Byte) : Response.Plain ⟨.ok, data⟩ := fun refused => absurd rfl refused

theorem Response.Plain.bare (status : Status) : (bare status).Plain := fun _ => rfl

theorem Response.Plain.mode (s : State) : (modeAnswer s).1.Plain := .ok _

theorem Response.Plain.onHeadOperand {ops : List Byte} {serve : HeadId → Response × State}
    (served : ∀ h, (serve h).1.Plain) : (onHeadOperand ops s serve).1.Plain := by
  unfold Machine.onHeadOperand
  split
  · exact .bare _
  · exact served _

theorem serveEventsMask_plain (p : Port) (ops : List Byte) (s : State) : (serveEventsMask p ops s).1.Plain := by
  unfold serveEventsMask
  split
  · exact .bare _
  · exact .ok _

theorem serveModeProduce_plain (ops : List Byte) (s : State) : (serveModeProduce ops s).1.Plain := by
  unfold serveModeProduce
  split
  · exact .bare _
  · split
    · exact .mode _
    · exact .bare _

theorem serveModeDrain_plain (ops : List Byte) (s : State) : (serveModeDrain ops s).1.Plain := by
  unfold serveModeDrain
  split
  · exact .bare _
  · exact .mode _

theorem serveModeResume_plain (ops : List Byte) (s : State) : (serveModeResume ops s).1.Plain := by
  unfold serveModeResume
  split
  · exact .bare _
  · split
    · exact .mode _
    · exact .bare _

theorem serveModeSetup_plain (ops : List Byte) (s : State) : (serveModeSetup ops s).1.Plain := by
  unfold serveModeSetup
  split
  · exact .bare _
  · exact .mode _

theorem serveRestart_plain (ops : List Byte) (s : State) : (serveRestart ops s).1.Plain := by
  unfold serveRestart
  split
  · exact .bare _
  · exact .bare _

theorem serveConfigWrite_plain (ops : List Byte) (s : State) : (serveConfigWrite ops s).1.Plain := by
  unfold serveConfigWrite
  split
  · exact .bare _
  · split
    · exact .bare _
    · split
      · exact .bare _
      · exact .ok _

theorem serveAngleRearm_plain (ops : List Byte) (s : State) : (serveAngleRearm ops s).1.Plain := by
  unfold serveAngleRearm
  split
  · exact .bare _
  · exact .bare _

theorem servePocketsClear_plain (ops : List Byte) (s : State) : (servePocketsClear ops s).1.Plain := by
  unfold servePocketsClear
  split
  · exact .bare _
  · split
    · exact .bare _
    · exact .ok _

theorem serveRecipeWrite_plain (ops : List Byte) (s : State) : (serveRecipeWrite ops s).1.Plain := by
  unfold serveRecipeWrite
  split
  · exact .bare _
  · split
    · exact .bare _
    · split
      · exact .bare _
      · exact .ok _

theorem serveRecipeRead_plain (ops : List Byte) (s : State) : (serveRecipeRead ops s).1.Plain := by
  unfold serveRecipeRead
  split
  · exact .bare _
  · split
    · exact .bare _
    · exact .ok _

theorem serveRecipeErase_plain (ops : List Byte) (s : State) : (serveRecipeErase ops s).1.Plain := by
  unfold serveRecipeErase
  split
  · exact .bare _
  · split
    · exact .bare _
    · split
      · exact .bare _
      · exact .ok _

theorem serveStackPush_plain (ops : List Byte) (s : State) : (serveStackPush ops s).1.Plain := by
  unfold serveStackPush
  split
  · exact .bare _
  · split
    · exact .bare _
    · split
      · exact .bare _
      · exact .ok _

theorem serveStackPop_plain (ops : List Byte) (s : State) : (serveStackPop ops s).1.Plain := by
  unfold serveStackPop
  split
  · exact .ok _
  · exact .bare _

theorem serveStackReplace_plain (ops : List Byte) (s : State) : (serveStackReplace ops s).1.Plain := by
  unfold serveStackReplace
  split
  · exact .bare _
  · split
    · exact .bare _
    · exact .ok _

theorem serveHeadRead_plain (ops : List Byte) (s : State) : (serveHeadRead ops s).1.Plain := by
  refine .onHeadOperand fun h => ?_
  dsimp only
  split
  · split
    · exact .ok _
    · split
      · exact .ok _
      · exact .bare _
  · exact .ok _

theorem serveHeadCalWrite_plain (ops : List Byte) (s : State) : (serveHeadCalWrite ops s).1.Plain := by
  refine .onHeadOperand fun h => ?_
  dsimp only
  split
  · exact .ok _
  · exact .bare _

theorem serveHeadTrimSet_plain (ops : List Byte) (s : State) : (serveHeadTrimSet ops s).1.Plain := by
  refine .onHeadOperand fun h => ?_
  split
  · exact .bare _
  · exact .ok _

theorem serveTraceNext_plain (p : Port) (ops : List Byte) (s : State) : (serveTraceNext p ops s).1.Plain := by
  unfold serveTraceNext
  split
  · exact .bare _
  · exact .ok _

theorem serveTraceFind_plain (ops : List Byte) (s : State) : (serveTraceFind ops s).1.Plain := by
  unfold serveTraceFind
  split
  · exact .bare _
  · exact .ok _

theorem serveSerialSet_plain (ops : List Byte) (s : State) : (serveSerialSet ops s).1.Plain := by
  unfold serveSerialSet
  split
  · exact .bare _
  · split
    · exact .bare _
    · split
      · exact .bare _
      · exact .ok _

theorem serveLevelReport_plain (ops : List Byte) (s : State) : (serveLevelReport ops s).1.Plain := by
  unfold serveLevelReport
  split
  · exact .bare _
  · unfold State.report
    split
    · exact .bare _
    · exact .ok _

/-- Every completion is one shape: the request's lengths are checked and its block serves, with no data in a refusal
(R195, R203). -/
theorem exec_of_completes {p : Port} {r : Request} (h : completes c = some (p, r)) :
    ∃ serve : List Byte → State → Response × State, (∀ ops s, (serve ops s).1.Plain) ∧
      ∀ s, exec c s = .next ((s.elapse (elapsedOf c)).complete p r r.lengths serve) := by
  cases c with
  | nop | identify | status | eventsRead | modeHalt | configRead | tuningWrite | tuningRead | stackRead
  | traceStatus | traceRewind | traceClear =>
    obtain ⟨rfl, rfl⟩ := Prod.mk.inj (Option.some.inj h)
    exact ⟨_, fun _ _ => .ok _, fun _ => rfl⟩
  | eventsMask => cases h; exact ⟨_, serveEventsMask_plain _, fun _ => rfl⟩
  | modeProduce => cases h; exact ⟨_, serveModeProduce_plain, fun _ => rfl⟩
  | modeDrain => cases h; exact ⟨_, serveModeDrain_plain, fun _ => rfl⟩
  | modeResume => cases h; exact ⟨_, serveModeResume_plain, fun _ => rfl⟩
  | modeSetup => cases h; exact ⟨_, serveModeSetup_plain, fun _ => rfl⟩
  | restart => cases h; exact ⟨_, serveRestart_plain, fun _ => rfl⟩
  | configWrite => cases h; exact ⟨_, serveConfigWrite_plain, fun _ => rfl⟩
  | angleRearm => cases h; exact ⟨_, serveAngleRearm_plain, fun _ => rfl⟩
  | pocketsClear => cases h; exact ⟨_, servePocketsClear_plain, fun _ => rfl⟩
  | recipeWrite => cases h; exact ⟨_, serveRecipeWrite_plain, fun _ => rfl⟩
  | recipeRead => cases h; exact ⟨_, serveRecipeRead_plain, fun _ => rfl⟩
  | recipeErase => cases h; exact ⟨_, serveRecipeErase_plain, fun _ => rfl⟩
  | stackPush => cases h; exact ⟨_, serveStackPush_plain, fun _ => rfl⟩
  | stackPop => cases h; exact ⟨_, serveStackPop_plain, fun _ => rfl⟩
  | stackReplace => cases h; exact ⟨_, serveStackReplace_plain, fun _ => rfl⟩
  | headRead => cases h; exact ⟨_, serveHeadRead_plain, fun _ => rfl⟩
  | headCalWrite => cases h; exact ⟨_, serveHeadCalWrite_plain, fun _ => rfl⟩
  | headTrimSet => cases h; exact ⟨_, serveHeadTrimSet_plain, fun _ => rfl⟩
  | headLeadSet => cases h; exact ⟨_, fun _ _ => .onHeadOperand fun _ => .ok _, fun _ => rfl⟩
  | headBlock | headRelease | headStatsClear =>
    cases h
    exact ⟨_, fun _ _ => .onHeadOperand fun _ => .bare _, fun _ => rfl⟩
  | traceNext => cases h; exact ⟨_, serveTraceNext_plain _, fun _ => rfl⟩
  | traceFind => cases h; exact ⟨_, serveTraceFind_plain, fun _ => rfl⟩
  | serialSet => cases h; exact ⟨_, serveSerialSet_plain, fun _ => rfl⟩
  | levelReport => cases h; exact ⟨_, serveLevelReport_plain, fun _ => rfl⟩
  | _ => cases h

/-! ### What the inspector reaches (R149, R196) -/

/-- Nothing has changed but the time, the inspection port, the inspector's cursor and its report-error counter. -/
def State.InspectorOnly (s t : State) : Prop :=
  t = { s with
    now := t.now, insp := t.insp, reportErrors := t.reportErrors,
    queue := { s.queue with inspCursor := t.queue.inspCursor } }

theorem State.InspectorOnly.trans {u : State} (a : s.InspectorOnly t) (b : t.InspectorOnly u) : s.InspectorOnly u := by
  unfold State.InspectorOnly at a b ⊢
  rw [b, a]

theorem State.InspectorOnly.elapse (dt : Nat) : s.InspectorOnly (s.elapse dt) := rfl

theorem State.InspectorOnly.updPort (f : PortState → PortState) : s.InspectorOnly (s.updPort .inspection f) := rfl

theorem State.InspectorOnly.raiseOn (k : EventKind) : s.InspectorOnly (s.raiseOn .inspection k) := by
  unfold State.raiseOn
  split <;> rfl

theorem State.InspectorOnly.setCursor (cursor : U32) :
    s.InspectorOnly { s with queue := s.queue.setCursor .inspection cursor } := rfl

theorem State.InspectorOnly.takeFrame (bytes : List Byte) : s.InspectorOnly (s.takeFrame .inspection bytes) := by
  unfold State.takeFrame
  dsimp only
  split
  · rfl
  · exact .trans (.updPort _) (.raiseOn _)
  · split
    · exact .trans (.updPort _) (.raiseOn _)
    · split
      · exact .updPort _
      · exact .trans (.updPort _) (.raiseOn _)

theorem State.InspectorOnly.closeFrame (bytes : List Byte) : s.InspectorOnly (s.closeFrame .inspection bytes) := by
  unfold State.closeFrame
  split
  · rfl
  · exact .trans (.updPort _) (.takeFrame _)

theorem State.InspectorOnly.complete {r : Request} {lengths : List Nat} {serve : List Byte → State → Response × State}
    (served : ∀ ops, s.InspectorOnly (serve ops s).2) : s.InspectorOnly (s.complete .inspection r lengths serve) := by
  rcases s.complete_cases .inspection r lengths serve with same | ⟨ops, -, ⟨-, refused⟩ | ⟨-, answered⟩⟩
  · rw [same]
    rfl
  · rw [refused]
    exact .updPort _
  · rw [answered]
    exact .trans (served ops) (.updPort _)

theorem State.InspectorOnly.serveEventsMask (ops : List Byte) :
    s.InspectorOnly (serveEventsMask .inspection ops s).2 := by
  unfold Machine.serveEventsMask
  split
  · rfl
  · exact .updPort _

theorem State.InspectorOnly.serveTraceNext (ops : List Byte) :
    s.InspectorOnly (serveTraceNext .inspection ops s).2 := by
  unfold Machine.serveTraceNext
  split
  · rfl
  · exact .setCursor _

/-- The inspector's requests but LEVEL_REPORT (R196). -/
theorem State.InspectorOnly.of_completes {r : Request} (request : completes c = some (.inspection, r))
    (other : r ≠ .levelReport) (next : exec c s = .next t) : s.InspectorOnly t := by
  cases c with
  | nop | identify | status | traceStatus =>
    cases request
    exact next_eq next ▸ .trans (.elapse _) (.complete fun _ => rfl)
  | eventsRead =>
    cases request
    exact next_eq next ▸ .trans (.elapse _) (.complete fun _ => rfl)
  | eventsMask =>
    cases request
    exact next_eq next ▸ .trans (.elapse _) (.complete fun ops => .serveEventsMask ops)
  | headRead =>
    cases request
    exact next_eq next ▸ .trans (.elapse _) (.complete fun ops => by rw [serveHeadRead_same]; rfl)
  | traceNext =>
    cases request
    exact next_eq next ▸ .trans (.elapse _) (.complete fun ops => .serveTraceNext ops)
  | traceFind =>
    cases request
    exact next_eq next ▸ .trans (.elapse _) (.complete fun ops => by rw [serveTraceFind_same]; rfl)
  | traceRewind =>
    cases request
    exact next_eq next ▸ .trans (.elapse _) (.complete fun _ => .setCursor _)
  | levelReport =>
    cases request
    exact absurd rfl other
  | _ => cases request

end Sys2Proof.Machine

namespace Sys2Proof.Proofs

open Sys2Proof.Machine

/-- Settles O3: every completion is `State.complete` with its block, which answers plainly. -/
theorem completionsAnswerAndFreeTheSlot : Obligations.CompletionsAnswerAndFreeTheSlot := by
  intro c p r request s
  obtain ⟨serve, plain, shape⟩ := exec_of_completes request
  refine ⟨fun absent => ?_, fun ops held => ?_⟩
  · rw [shape, State.complete_of_not_holds _ _ _ fun ops held => absent ops ((s.elapse_holds ..).mp held)]
  · have answered := (s.elapse (elapsedOf c)).complete_of_holds r.lengths serve ((s.elapse_holds ..).mpr held)
    rw [shape, answered]
    refine ⟨fun wrong => by rw [if_neg wrong], ?_⟩
    split
    · exact ⟨_, _, rfl, by rw [State.port_finish], by rw [State.port_finish], plain ops _⟩
    · exact ⟨_, _, rfl, by rw [State.port_finish], by rw [State.port_finish], Response.Plain.bare _⟩

/-- Settles O52: each act of the inspector but LEVEL_REPORT is an act on the inspection port and its cursor. -/
theorem inspectionTouchesOnlyItsOwn : Obligations.InspectionTouchesOnlyItsOwn := by
  rintro c s t next (⟨dt, bits, rfl⟩ | ⟨dt, rfl⟩ | ⟨dt, rfl⟩ | ⟨r, request, other⟩)
  · exact next_eq next ▸ State.InspectorOnly.trans (.elapse dt) (.closeFrame _)
  · exact next_eq next ▸ State.InspectorOnly.trans (.elapse dt) (.updPort _)
  · exact next_eq next ▸ State.InspectorOnly.trans (.elapse dt) (.updPort _)
  · exact State.InspectorOnly.of_completes request other next

end Sys2Proof.Proofs
end

section
/-! ## What the resets make of the cycle and of the ports (R1, R21, R36, R134, R184, R187, R202) -/

namespace Sys2Proof.Machine

variable (s : State)

theorem State.port_powerOn (p : Port) : s.powerOn.port p = portPowerOn := by cases p <;> rfl

/-- An answer on one port leaves every status word (R195). -/
theorem State.events_finish (p q : Port) (r : Response) : ((s.finish p r).port q).events = (s.port q).events := by
  by_cases same : p = q
  · subst same
    rw [State.port_finish]
  · rw [State.finish, State.port_updPort_other _ _ _ _ same]

theorem State.pinsKept_of_heads {t : State} (encA : t.encA = s.encA) (encB : t.encB = s.encB)
    (infeed : t.infeed = s.infeed) (estop : t.estop = s.estop)
    (heads : ∀ h, (t.head h).psPin = (s.head h).psPin ∧ (t.head h).sense = (s.head h).sense) : s.pinsKept t :=
  ⟨encA, encB, infeed, estop, heads⟩

/-- RESTART in PRODUCTION or DRAIN is refused (R184). -/
theorem exec_restart_of_filling (dt : Nat) (hs : s.holds .line .restart [])
    (hm : s.mode = .production ∨ s.mode = .drain) :
    exec (.restart dt) s = .next ((s.elapse dt).finish .line (bare .wrongMode)) := by
  have served : serveRestart [] (s.elapse dt) = (bare .wrongMode, s.elapse dt) :=
    if_pos (s.mode.filling_iff.mpr hm)
  exact s.next_complete_of_serve hs (by simp [Request.lengths]) served

end Sys2Proof.Machine

namespace Sys2Proof.Proofs

open Sys2Proof.Machine

/-- Settles O6: either reset is its own state built from the reset values, and each head keeps its pins. -/
theorem eitherResetClearsTheCycle : Obligations.EitherResetClearsTheCycle := by
  refine fun dt s => ⟨⟨_, exec_powerOnReset s dt, rfl, fun h => ?_, rfl, ?_, rfl, fun p => ?_⟩, fun hs hm =>
    ⟨_, exec_restart_of_not_filling s dt hs hm, ?_, fun h => ?_, ?_, ?_, ?_, fun p => ?_⟩⟩
  · rw [State.head_powerOn]
    exact ⟨rfl, rfl⟩
  · exact State.pinsKept_of_heads _ rfl rfl rfl rfl fun h => by rw [State.head_powerOn]; exact ⟨rfl, rfl⟩
  · rw [State.port_powerOn]
    rfl
  · rw [State.finish_tracker]
    rfl
  · rw [State.head_finish, State.head_restarted]
    exact ⟨rfl, rfl⟩
  · rw [State.finish_queue]
    rfl
  · refine State.pinsKept_of_heads _ (State.finish_encA ..) (State.finish_encB ..) (State.finish_infeed ..)
      (State.finish_estop ..) fun h => ?_
    rw [State.head_finish, State.head_restarted]
    exact ⟨rfl, rfl⟩
  · rw [State.finish_pending]
    rfl
  · rw [State.events_finish]
    cases p <;> rfl

/-- Settles O8: power-on has both ports afresh; RESTART is refused while filling, and otherwise clears both ports
before its own answer. -/
theorem resetsSetThePorts : Obligations.ResetsSetThePorts := by
  refine ⟨fun dt s => ⟨_, exec_powerOnReset s dt, rfl, fun p => State.port_powerOn ..⟩, fun dt s hs =>
    ⟨exec_restart_of_filling s dt hs, fun hm => ⟨_, exec_restart_of_not_filling s dt hs hm, ?_, rfl, ?_⟩⟩⟩
  · rw [State.finish_reportErrors]
    rfl
  · change s.insp.inspRestarted = _
    unfold PortState.inspRestarted
    rcases s.insp.frame with _ | (_ | _ | _) <;> rfl

end Sys2Proof.Proofs
end

section
/-! ## Expiry at a revolution event (R142, R147) -/

namespace Sys2Proof.Machine

/-- A record within the horizon at revolution `c` (R142). -/
def withinHorizon (c : U32) (horizon : Nat) (r : TraceRecord) : Bool :=
  decide ((c - r.body.revolution).toNat < horizon)

theorem not_expiredAt (c : U32) (horizon : Nat) : (fun r => !expiredAt c horizon r) = withinHorizon c horizon := by
  funext r
  rw [expiredAt, withinHorizon, ← decide_not]
  exact decide_eq_decide.mpr not_le

section

variable (c : U32) (horizon : Nat) (q : TraceQueue)

/-- Expiry leaves the queue where every record is within the horizon, and otherwise keeps those that are, counts the
rest and brings the cursors up (R142). -/
theorem TraceQueue.expire_cases :
    ((q.held.filter (withinHorizon c horizon)) = q.held ∧ q.expire c horizon = q) ∨
    ((q.held.filter (withinHorizon c horizon)).length < q.held.length ∧
      q.expire c horizon = ({ q with
        held := q.held.filter (withinHorizon c horizon)
        expired := q.expired +
          BitVec.ofNat 32 (q.held.length - (q.held.filter (withinHorizon c horizon)).length) }).bringUp) := by
  have le := List.length_filter_le (withinHorizon c horizon) q.held
  unfold TraceQueue.expire
  simp only [not_expiredAt]
  split
  · exact .inl ⟨List.filter_sublist.eq_of_length (by omega), rfl⟩
  · exact .inr ⟨by omega, rfl⟩

theorem TraceQueue.expire_held : (q.expire c horizon).held = q.held.filter (withinHorizon c horizon) := by
  rcases q.expire_cases c horizon with ⟨all, same⟩ | ⟨-, removed⟩
  · rw [same, all]
  · rw [removed]
    rfl

theorem TraceQueue.mem_expire (r : TraceRecord) :
    r ∈ (q.expire c horizon).held ↔ r ∈ q.held ∧ (c - r.body.revolution).toNat < horizon := by
  rw [q.expire_held, List.mem_filter, withinHorizon, decide_eq_true_eq]

end

/-- A cursor brought up to the oldest held record reads on from the same record (R147, R148). -/
theorem find_broughtUp {newest cursor : U32} {held : List TraceRecord} :
    (held.find? fun r => atOrAfter newest (broughtUp newest held cursor) r.seq) =
      held.find? fun r => atOrAfter newest cursor r.seq := by
  cases held with
  | nil => rfl
  | cons oldest rest =>
    by_cases behind : (newest - oldest.seq).toNat + 1 < (newest + 1 - cursor).toNat
    · have raised : broughtUp newest (oldest :: rest) cursor = oldest.seq := if_pos behind
      have kept : atOrAfter newest cursor oldest.seq = true := decide_eq_true (by unfold cursorDistance; omega)
      have first : atOrAfter newest oldest.seq oldest.seq = true := by
        have below := (newest + 1 - cursor).isLt
        have next : (newest + 1 - oldest.seq).toNat = (newest - oldest.seq).toNat + 1 := seqAge_succ (by omega)
        exact decide_eq_true (by unfold cursorDistance; omega)
      simp only [raised, List.find?_cons, kept, first]
    · have stays : broughtUp newest (oldest :: rest) cursor = cursor := if_neg behind
      rw [stays]

theorem TraceQueue.cursor_bringUp (q : TraceQueue) (p : Port) :
    q.bringUp.cursor p = broughtUp q.created q.held (q.cursor p) := by
  cases p with
  | line => exact q.bringUp_cursors.1
  | inspection => exact q.bringUp_cursors.2

/-- The record a port reads next is not changed by the cursors' being brought up (R147, R148). -/
theorem TraceQueue.nextFor_bringUp (q : TraceQueue) (p : Port) : q.bringUp.nextFor p = q.nextFor p := by
  have reads : q.bringUp.nextFor p = q.held.find? fun r => atOrAfter q.created (q.bringUp.cursor p) r.seq := rfl
  rw [reads, q.cursor_bringUp p, find_broughtUp]
  rfl

end Sys2Proof.Machine

namespace Sys2Proof.Proofs

open Sys2Proof.Machine

/-- Settles O40: expiry either finds every record within the horizon and does nothing, or keeps those within it and
brings the cursors up. -/
theorem revolutionsExpireOldRecords : Obligations.RevolutionsExpireOldRecords := by
  intro c horizon q positive t
  have held : t.held = q.held.filter (withinHorizon c horizon) := q.expire_held c horizon
  have members : ∀ r, r ∈ t.held ↔ r ∈ q.held ∧ (c - r.body.revolution).toNat < horizon := q.mem_expire c horizon
  have current : ∀ r ∈ q.held, r.body.revolution = c → r ∈ t.held := fun r hr now =>
    (members r).mpr ⟨hr, by rw [now, sub_self]; exact positive⟩
  refine ⟨members, held ▸ List.filter_sublist, current, ?_⟩
  rcases q.expire_cases c horizon with ⟨all, same⟩ | ⟨fewer, removed⟩
  · have kept : t = q := same
    rw [kept]
    refine ⟨by simp, fun less => absurd less (lt_irrefl _), fun _ => rfl, rfl, fun p => ?_⟩
    change _ = (q.held.filter (withinHorizon c horizon)).find? _
    rw [all]
    rfl
  · have kept : t = _ := removed
    obtain ⟨line, insp⟩ := TraceQueue.bringUp_cursors { q with
      held := q.held.filter (withinHorizon c horizon)
      expired := q.expired + BitVec.ofNat 32 (q.held.length - (q.held.filter (withinHorizon c horizon)).length) }
    refine ⟨by rw [held, kept]; rfl, fun _ => ?_, fun same => ?_, by rw [kept]; rfl, fun p => ?_⟩
    · rw [held, kept]
      exact ⟨line, insp⟩
    · rw [held] at same
      omega
    · rw [kept, TraceQueue.nextFor_bringUp]
      rfl

end Sys2Proof.Proofs
end

section
/-! ## The angle tracker: counts, advances, index arrivals and the stop clock (R2 to R16) -/

namespace Sys2Proof.Machine

variable (s : State)

/-! ### Faults and HALT entry leave the rest (R12, R175) -/

/-- A change of the heads below N changes the heads alone. -/
theorem State.mapBelow_heads_only (f : Head → Head) : ∃ heads, s.mapBelow f = { s with heads := heads } := ⟨_, rfl⟩

/-- HALT entry reaches the mode, the heads and the ports alone (R175). -/
theorem State.enterHalt_frame :
    s.enterHalt = { s with
      mode := s.enterHalt.mode, heads := s.enterHalt.heads, line := s.enterHalt.line, insp := s.enterHalt.insp } := by
  rcases s.enterHalt_cases with ⟨-, h⟩ | ⟨-, h⟩
  · rw [h]
  · obtain ⟨heads, changed⟩ := s.mapBelow_heads_only (Head.haltEntry s.now s.cfg)
    rw [h, changed, State.setMode, State.raise_eq]

/-- An ANGLE_FAULT reaches the tracker, the mode, the heads and the ports alone (R12). -/
theorem State.angleFault_frame :
    s.angleFault = { s with
      tracker := s.angleFault.tracker, mode := s.angleFault.mode, heads := s.angleFault.heads,
      line := s.angleFault.line, insp := s.angleFault.insp } := by
  by_cases fault : s.tracker.ref = .fault
  · rw [s.angleFault_of_fault fault]
  · rw [s.angleFault_of_not_fault fault, State.enterHalt_frame, State.faultMarked, State.raise_eq]

/-- What an ANGLE_FAULT keeps of the tracker, and that it stands after it (R12). -/
theorem State.angleFault_keeps :
    s.angleFault.tracker.angle = s.tracker.angle ∧ s.angleFault.tracker.debt = s.tracker.debt ∧
    s.angleFault.tracker.motion = s.tracker.motion ∧ s.angleFault.tracker.revolutions = s.tracker.revolutions ∧
    s.angleFault.tracker.stopStart = s.tracker.stopStart ∧ s.angleFault.tracker.revStart = s.tracker.revStart ∧
    s.angleFault.tracker.ref = .fault := by
  by_cases fault : s.tracker.ref = .fault
  · rw [s.angleFault_of_fault fault]
    exact ⟨rfl, rfl, rfl, rfl, rfl, rfl, fault⟩
  · rw [s.angleFault_tracker fault]
    exact ⟨rfl, rfl, rfl, rfl, rfl, rfl, rfl⟩

/-! ### Counts (R2, R3, R4) -/

theorem decodePhases_forward :
    ∀ a b a' b', ((a, b), (a', b')) ∈ forwardRows → decodePhases a b a' b' = .forward := by decide

theorem decodePhases_reverse :
    ∀ a b a' b', ((a, b), (a', b')) ∈ reverseRows → decodePhases a b a' b' = .reverse := by decide

theorem decodePhases_both : ∀ a b a' b', a' ≠ a ∧ b' ≠ b → decodePhases a b a' b' = .both := by decide

theorem decodePhases_unchanged : ∀ a b a' b', a' = a ∧ b' = b → decodePhases a b a' b' = .unchanged := by decide

section

variable {dt : Nat} {a b infeed : Bool} {s}

theorem exec_encoderCount_forward (rows : ((s.encA, s.encB), (a, b)) ∈ forwardRows) :
    exec (.encoderCount dt a b infeed) s =
      .next ({ s.elapse dt with encA := a, encB := b, infeed := infeed }).forwardCount := by
  simp only [exec, execEncoderCount, decodePhases_forward _ _ _ _ rows]

theorem exec_encoderCount_reverse (rows : ((s.encA, s.encB), (a, b)) ∈ reverseRows) :
    exec (.encoderCount dt a b infeed) s =
      .next ({ s.elapse dt with encA := a, encB := b, infeed := infeed }).reverseCount := by
  simp only [exec, execEncoderCount, decodePhases_reverse _ _ _ _ rows]

theorem exec_encoderCount_both (rows : a ≠ s.encA ∧ b ≠ s.encB) :
    exec (.encoderCount dt a b infeed) s =
      .next ({ s.elapse dt with encA := a, encB := b, infeed := infeed }).angleFault := by
  simp only [exec, execEncoderCount, decodePhases_both _ _ _ _ rows]

theorem exec_encoderCount_unchanged (rows : a = s.encA ∧ b = s.encB) :
    exec (.encoderCount dt a b infeed) s =
      .next { s.elapse dt with encA := a, encB := b, infeed := infeed } := by
  simp only [exec, execEncoderCount, decodePhases_unchanged _ _ _ _ rows]

end

theorem State.forwardCount_of_debt (owed : 0 < s.tracker.debt) : s.forwardCount = s.payDebt := if_pos owed

theorem State.forwardCount_of_no_debt (paid : s.tracker.debt = 0) : s.forwardCount = s.advance :=
  if_neg (by omega)

theorem State.reverseCount_within (within : s.tracker.debt + 1 ≤ s.cfg.t / 4) (still : s.tracker.motion ≠ .running) :
    s.reverseCount =
      { s with tracker := { s.tracker with debt := s.tracker.debt + 1, motion := .reversing } } := by
  rw [State.reverseCount, debtLimit, if_pos within]
  split
  · rename_i running
    exact absurd running still
  · rfl
  · rfl

theorem State.reverseCount_running (within : s.tracker.debt + 1 ≤ s.cfg.t / 4) (runs : s.tracker.motion = .running) :
    s.reverseCount =
      ({ s with tracker := { s.tracker with debt := s.tracker.debt + 1 } }).leaveRunning .reversing := by
  rw [State.reverseCount, debtLimit, if_pos within]
  simp only [runs]

theorem State.reverseCount_past (past : s.cfg.t / 4 < s.tracker.debt + 1) : s.reverseCount = s.angleFault :=
  if_neg (not_le.mpr past)

/-- A reverse count within the limit: one more debt, REVERSING, and the angle, the reference and the block as they
were (R4). -/
theorem State.reverseCount_tracker (within : s.tracker.debt + 1 ≤ s.cfg.t / 4) :
    s.reverseCount.tracker.debt = s.tracker.debt + 1 ∧ s.reverseCount.tracker.angle = s.tracker.angle ∧
    s.reverseCount.tracker.motion = .reversing ∧ s.reverseCount.tracker.ref = s.tracker.ref ∧
    s.reverseCount.cfg = s.cfg := by
  by_cases runs : s.tracker.motion = .running
  · rw [s.reverseCount_running within runs, State.leaveRunning_eq]
    exact ⟨rfl, rfl, rfl, rfl, rfl⟩
  · rw [s.reverseCount_within within runs]
    exact ⟨rfl, rfl, rfl, rfl, rfl⟩

/-! ### Advances (R5, R6) -/

/-- The motion step of an advance, by whether the turret stood (R5). -/
theorem State.advanceMotion_eq :
    s.advanceMotion =
      if s.tracker.motion = .stopped then
        ({ s with tracker := { s.tracker with motion := .running, stopStart := s.now } }).mapBelow
          (Head.firstAdvance s.now s.cfg)
      else { s with tracker := { s.tracker with stopStart := s.now } } := by
  unfold State.advanceMotion
  cases s.tracker.motion <;> rfl

theorem State.advanceMotion_tracker :
    s.advanceMotion.tracker = { s.tracker with
      motion := if s.tracker.motion = .stopped then .running else s.tracker.motion, stopStart := s.now } := by
  rw [s.advanceMotion_eq]
  split
  · rw [State.mapBelow_tracker]
  · rfl

theorem State.advanceMotion_frame :
    s.advanceMotion = { s with tracker := s.advanceMotion.tracker, heads := s.advanceMotion.heads } := by
  rw [s.advanceMotion_eq]
  split <;> rfl

/-- The state that an advance brings to its boundaries: moved on by one count (R5). -/
def State.moved : State := s.advanceMotion.moveAngle

theorem State.advanceMotion_wraps : s.advanceMotion.wraps = s.wraps := by
  rw [State.wraps, State.wraps, s.advanceMotion_frame, s.advanceMotion_tracker]

/-- The tracker at the boundaries of an advance. -/
theorem State.moved_tracker :
    s.moved.tracker = { s.tracker with
      motion := if s.tracker.motion = .stopped then .running else s.tracker.motion
      stopStart := s.now
      angle := if s.tracker.angle + 1 = s.cfg.t then 0 else s.tracker.angle + 1
      revolutions :=
        if s.tracker.angle + 1 = s.cfg.t then s.tracker.revolutions + 1 else s.tracker.revolutions } := by
  unfold State.moved State.moveAngle
  rw [s.advanceMotion_wraps]
  by_cases wraps : s.tracker.angle + 1 = s.cfg.t
  · simp only [State.wraps, decide_eq_true wraps, if_true, if_pos wraps, s.advanceMotion_tracker]
  · simp only [State.wraps, decide_eq_false wraps, Bool.false_eq_true, if_false, if_neg wraps, s.advanceMotion_tracker]

theorem State.moved_frame : s.moved = { s with tracker := s.moved.tracker, heads := s.moved.heads } := by
  have frame := s.advanceMotion_frame
  unfold State.moved State.moveAngle
  split <;> rw [frame]

/-- An advance off the wrap: the boundaries, then the index deadline (R5). -/
theorem State.advance_off_wrap (off : s.tracker.angle + 1 ≠ s.cfg.t) :
    s.advance = s.moved.deliverBoundaries.indexDeadline := by
  have straight : s.wraps = false := decide_eq_false off
  simp only [State.advance, straight]
  rfl

/-- An advance at the wrap: the boundaries, then expiry, speed and the index deadline (R5, R6). -/
theorem State.advance_at_wrap (at_wrap : s.tracker.angle + 1 = s.cfg.t) :
    s.advance = s.moved.deliverBoundaries.expireTraces.speedStep.indexDeadline := by
  have wraps : s.wraps = true := decide_eq_true at_wrap
  simp only [State.advance, wraps]
  rfl

/-- The boundaries of an advance leave tracker, block, tuning, recipes and ESTOP as the count made them. -/
theorem State.moved_boundaries : CycleFrame s.moved s.moved.deliverBoundaries := .deliverBoundaries _

/-! ### The speed step (R15, R16) -/

theorem State.speedStep_tracker :
    s.speedStep.tracker =
      { s.tracker with
        speed := if s.tracker.ref = .tracking ∧ s.tracker.timingMark = true then
            roundHalfUp (3600000 * s.cfg.n) (revolutionTime s.now s.tracker.revStart)
          else s.tracker.speed
        timingMark := decide (s.tracker.ref = .tracking ∧ s.tracker.motion = .running)
        revStart := s.now } := by
  unfold State.speedStep
  by_cases tracking : s.tracker.ref = .tracking
  · simp [tracking]
  · simp [tracking]

theorem State.speedStep_frame : s.speedStep = { s with tracker := s.speedStep.tracker } := by
  unfold State.speedStep
  split <;> rfl

theorem roundHalfUp_le {a b : Nat} (hb : 0 < b) : roundHalfUp a b ≤ a := by
  rw [roundHalfUp_eq_div hb]
  refine Nat.le_of_lt_succ ((Nat.div_lt_iff_lt_mul (by omega)).mpr ?_)
  nlinarith

@[simp] theorem State.expireTraces_now : s.expireTraces.now = s.now := rfl
@[simp] theorem State.expireTraces_cfg : s.expireTraces.cfg = s.cfg := rfl
@[simp] theorem State.expireTraces_tracker : s.expireTraces.tracker = s.tracker := rfl

/-- Expiry and the speed step leave the queue as expiry does (R6, R142). -/
theorem State.speedStep_queue :
    s.expireTraces.speedStep.queue = s.queue.expire s.tracker.revolutions s.cfg.horizon := by
  rw [State.speedStep_frame]
  rfl

/-! ### The index deadline (R11) -/

/-- What an index deadline keeps, and that it takes the speed only with ANGLE_FAULT (R11, R12). -/
theorem State.indexDeadline_keeps :
    s.indexDeadline.tracker.angle = s.tracker.angle ∧ s.indexDeadline.tracker.debt = s.tracker.debt ∧
    s.indexDeadline.tracker.motion = s.tracker.motion ∧
    s.indexDeadline.tracker.revolutions = s.tracker.revolutions ∧
    s.indexDeadline.tracker.stopStart = s.tracker.stopStart ∧
    s.indexDeadline.tracker.revStart = s.tracker.revStart ∧
    (s.indexDeadline.tracker.speed = s.tracker.speed ∨ s.indexDeadline.tracker.ref = .fault) := by
  unfold State.indexDeadline
  split
  · split
    · exact ⟨rfl, rfl, rfl, rfl, rfl, rfl, .inl rfl⟩
    · obtain ⟨angle, debt, motion, revolutions, stopStart, revStart, ref⟩ := s.angleFault_keeps
      exact ⟨angle, debt, motion, revolutions, stopStart, revStart, .inr ref⟩
  · exact ⟨rfl, rfl, rfl, rfl, rfl, rfl, .inl rfl⟩

theorem State.indexDeadline_frame :
    s.indexDeadline = { s with
      tracker := s.indexDeadline.tracker, mode := s.indexDeadline.mode, heads := s.indexDeadline.heads,
      line := s.indexDeadline.line, insp := s.indexDeadline.insp } := by
  unfold State.indexDeadline
  split
  · split
    · rfl
    · exact s.angleFault_frame
  · rfl

/-! ### An advance as a whole -/

/-- The state of an advance before its index deadline (R5, R6). -/
def State.beforeDeadline : State :=
  if s.tracker.angle + 1 = s.cfg.t then s.moved.deliverBoundaries.expireTraces.speedStep else s.moved.deliverBoundaries

theorem State.advance_eq : s.advance = s.beforeDeadline.indexDeadline := by
  unfold State.beforeDeadline
  split
  · rename_i wraps
    exact s.advance_at_wrap wraps
  · rename_i off
    exact s.advance_off_wrap off

/-- Expiry and the speed step leave the angle, the debt, the motion, the revolutions and the stop clock (R6). -/
theorem State.speedStep_keeps :
    s.expireTraces.speedStep.tracker.angle = s.tracker.angle ∧
    s.expireTraces.speedStep.tracker.debt = s.tracker.debt ∧
    s.expireTraces.speedStep.tracker.motion = s.tracker.motion ∧
    s.expireTraces.speedStep.tracker.revolutions = s.tracker.revolutions ∧
    s.expireTraces.speedStep.tracker.stopStart = s.tracker.stopStart ∧
    s.expireTraces.speedStep.cfg = s.cfg ∧ s.expireTraces.speedStep.tuning = s.tuning ∧
    s.expireTraces.speedStep.recipes = s.recipes ∧ s.expireTraces.speedStep.estop = s.estop := by
  rw [State.speedStep_frame, State.speedStep_tracker]
  exact ⟨rfl, rfl, rfl, rfl, rfl, rfl, rfl, rfl, rfl⟩

/-- Before the deadline the boundaries, expiry and the speed step have left the angle, the debt, the motion, the
revolutions and the stop clock of the count. -/
theorem State.beforeDeadline_keeps :
    s.beforeDeadline.tracker.angle = s.moved.tracker.angle ∧ s.beforeDeadline.tracker.debt = s.tracker.debt ∧
    s.beforeDeadline.tracker.motion = s.moved.tracker.motion ∧
    s.beforeDeadline.tracker.revolutions = s.moved.tracker.revolutions ∧
    s.beforeDeadline.tracker.stopStart = s.now ∧
    s.beforeDeadline.cfg = s.cfg ∧ s.beforeDeadline.tuning = s.tuning ∧ s.beforeDeadline.recipes = s.recipes ∧
    s.beforeDeadline.estop = s.estop := by
  have delivered := s.moved_boundaries
  have start := s.moved_frame
  have moved := s.moved_tracker
  have cfg : s.moved.deliverBoundaries.cfg = s.cfg := by rw [delivered.cfg, start]
  have tuning : s.moved.deliverBoundaries.tuning = s.tuning := by rw [delivered.tuning, start]
  have recipes : s.moved.deliverBoundaries.recipes = s.recipes := by rw [delivered.recipes, start]
  have estop : s.moved.deliverBoundaries.estop = s.estop := by rw [delivered.estop, start]
  unfold State.beforeDeadline
  split
  · obtain ⟨angle, debt, motion, revolutions, stopStart, cfg', tuning', recipes', estop'⟩ :=
      s.moved.deliverBoundaries.speedStep_keeps
    rw [angle, debt, motion, revolutions, stopStart, delivered.tracker]
    refine ⟨rfl, ?_, rfl, rfl, ?_, cfg'.trans cfg, tuning'.trans tuning, recipes'.trans recipes, estop'.trans estop⟩
    · rw [moved]
    · rw [moved]
  · rw [delivered.tracker]
    refine ⟨rfl, ?_, rfl, rfl, ?_, cfg, tuning, recipes, estop⟩
    · rw [moved]
    · rw [moved]

/-- What an advance makes of the tracker's angle, revolutions, debt and clocks, and what it leaves (R3, R5, R6). -/
theorem State.advance_keeps :
    s.advance.tracker.angle = s.moved.tracker.angle ∧ s.advance.tracker.debt = s.tracker.debt ∧
    s.advance.tracker.motion = s.moved.tracker.motion ∧
    s.advance.tracker.revolutions = s.moved.tracker.revolutions ∧ s.advance.tracker.stopStart = s.now ∧
    s.advance.cfg = s.cfg ∧ s.advance.tuning = s.tuning ∧ s.advance.recipes = s.recipes ∧ s.advance.estop = s.estop := by
  obtain ⟨angle, debt, motion, revolutions, stopStart, cfg, tuning, recipes, estop⟩ := s.beforeDeadline_keeps
  obtain ⟨angle', debt', motion', revolutions', stopStart', -, -⟩ := s.beforeDeadline.indexDeadline_keeps
  rw [s.advance_eq, angle', debt', motion', revolutions', stopStart', State.indexDeadline_frame]
  exact ⟨angle, debt, motion, revolutions, stopStart, cfg, tuning, recipes, estop⟩

/-- At the wrap of a turn of 8 counts or more no index deadline stands (R11). -/
theorem State.advance_at_wrap_beforeDeadline (wraps : s.tracker.angle + 1 = s.cfg.t) (turn : 8 ≤ s.cfg.t) :
    s.advance = s.moved.deliverBoundaries.expireTraces.speedStep := by
  have before : s.beforeDeadline = s.moved.deliverBoundaries.expireTraces.speedStep := if_pos wraps
  obtain ⟨angle, -, -, -, -, cfg, -⟩ := s.beforeDeadline_keeps
  rw [s.advance_eq, State.indexDeadline_elsewhere, before]
  right
  rw [angle, cfg, s.moved_tracker]
  simp only [if_pos wraps]
  omega

end Sys2Proof.Machine
end

section
/-! ## Corrections (R10) and the obligations of the tracker -/

namespace Sys2Proof.Machine

variable {s : State}

/-- Reverse counts within the limit run up exactly their number as debt (R4, R10). -/
theorem reverseCounts_within (k : Nat) (within : s.tracker.debt + k ≤ s.cfg.t / 4) :
    (reverseCounts k s).tracker.debt = s.tracker.debt + k ∧ (reverseCounts k s).tracker.angle = s.tracker.angle ∧
    (0 < k → (reverseCounts k s).tracker.motion = .reversing) ∧
    (reverseCounts k s).tracker.ref = s.tracker.ref := by
  induction k generalizing s with
  | zero => exact ⟨rfl, rfl, fun none => absurd none (lt_irrefl 0), rfl⟩
  | succ k ih =>
    have one : s.tracker.debt + 1 ≤ s.cfg.t / 4 := by omega
    obtain ⟨debt, angle, motion, ref, cfg⟩ := s.reverseCount_tracker one
    obtain ⟨debt', angle', motion', ref'⟩ := ih (s := s.reverseCount) (by rw [debt, cfg]; omega)
    rw [reverseCounts, debtLimit, if_pos one]
    refine ⟨by rw [debt', debt]; omega, angle'.trans angle, fun _ => ?_, ref'.trans ref⟩
    cases k with
    | zero => exact motion
    | succ k => exact motion' (Nat.succ_pos k)

/-- The reverse count that would pass the limit raises ANGLE_FAULT and ends the correction (R4, R10). -/
theorem reverseCounts_past (k : Nat) (started : s.tracker.debt ≤ s.cfg.t / 4)
    (past : s.cfg.t / 4 < s.tracker.debt + k) :
    (reverseCounts k s).tracker.debt = s.cfg.t / 4 ∧ (reverseCounts k s).tracker.angle = s.tracker.angle ∧
    (reverseCounts k s).tracker.ref = .fault := by
  induction k generalizing s with
  | zero => exact absurd past (by omega)
  | succ k ih =>
    rw [reverseCounts, debtLimit]
    by_cases one : s.tracker.debt + 1 ≤ s.cfg.t / 4
    · obtain ⟨debt, angle, -, -, cfg⟩ := s.reverseCount_tracker one
      obtain ⟨debt', angle', ref'⟩ := ih (s := s.reverseCount) (by rw [debt, cfg]; exact one)
        (by rw [debt, cfg]; omega)
      rw [if_pos one]
      exact ⟨by rw [debt', cfg], angle'.trans angle, ref'⟩
    · obtain ⟨angle, debt, -, -, -, -, ref⟩ := s.angleFault_keeps
      rw [if_neg one, s.reverseCount_past (by omega)]
      exact ⟨by rw [debt]; omega, angle, ref⟩

/-- Forward counts up to the wrap end at angle 0, one revolution on (R3, R10). -/
theorem forwardCounts_to_wrap (k : Nat) (some : 0 < k) (paid : s.tracker.debt = 0)
    (turn : s.tracker.angle + k = s.cfg.t) :
    (forwardCounts k s).tracker.angle = 0 ∧ (forwardCounts k s).tracker.debt = 0 ∧
    (forwardCounts k s).tracker.revolutions = s.tracker.revolutions + 1 := by
  induction k generalizing s with
  | zero => exact absurd some (lt_irrefl 0)
  | succ k ih =>
    obtain ⟨angle, debt, -, revolutions, -, cfg, -⟩ := s.advance_keeps
    rw [s.moved_tracker] at angle revolutions
    rw [forwardCounts, s.forwardCount_of_no_debt paid]
    cases k with
    | zero =>
      exact ⟨angle.trans (if_pos turn), debt.trans paid, revolutions.trans (if_pos turn)⟩
    | succ k =>
      have off : s.tracker.angle + 1 ≠ s.cfg.t := by omega
      have angle' := angle.trans (if_neg off)
      have revolutions' := revolutions.trans (if_neg off)
      have rest := ih (Nat.succ_pos k) (debt.trans paid) (by rw [angle', cfg]; omega)
      rwa [revolutions'] at rest

theorem State.correct_positive {k : Nat} (hk : 0 < k) : s.correct (k : Int) = reverseCounts k s :=
  if_pos (by omega)

theorem State.correct_negative (k : Nat) : s.correct (-(k : Int)) = forwardCounts k s := by
  rw [State.correct, if_neg (by omega), Int.natAbs_neg, Int.natAbs_natCast]

/-! ### Index arrivals (R7, R8, R9) -/

theorem State.indexCheck_within (within : (indexError s.cfg.t s.tracker.angle).natAbs ≤ s.cfg.tolerance) :
    s.indexCheck = ({ s with tracker := { s.tracker with slips := 0 } }).correct (indexError s.cfg.t s.tracker.angle) :=
  if_pos within

theorem State.indexCheck_slip (past : s.cfg.tolerance < (indexError s.cfg.t s.tracker.angle).natAbs)
    (first : s.tracker.slips = 0) :
    s.indexCheck = ({ s with tracker := { s.tracker with slips := 1 } }).correct (indexError s.cfg.t s.tracker.angle) :=
  (if_neg (not_le.mpr past)).trans (if_pos first)

theorem State.indexCheck_fault (past : s.cfg.tolerance < (indexError s.cfg.t s.tracker.angle).natAbs)
    (again : s.tracker.slips ≠ 0) : s.indexCheck = s.angleFault :=
  (if_neg (not_le.mpr past)).trans (if_neg again)

theorem State.indexArrival_of_fault (h : s.tracker.ref = .fault) : s.indexArrival = s := by
  rw [State.indexArrival, h]

theorem State.indexArrival_of_unreferenced (h : s.tracker.ref = .unreferenced) :
    s.indexArrival = if 0 < s.tracker.debt then s else s.firstReference := by
  rw [State.indexArrival, h]

theorem State.indexArrival_of_tracking (h : s.tracker.ref = .tracking) :
    s.indexArrival =
      if 0 < s.tracker.debt then { s with tracker := { s.tracker with indexMark := true } }
      else ({ s with tracker := { s.tracker with indexMark := true } }).indexCheck := by
  rw [State.indexArrival, h]

/-! ### Events of the motion at one head (R52, R54) -/

theorem Head.motionLeave_of_fill {now : Nat} {cfg : ConfigBlock} {x : Head}
    (fills : x.seq.state = .fillFast ∨ x.seq.state = .fillSlow) :
    x.motionLeave now cfg =
      { x with
        seq := { x.seq with
          state := .held, noFlowTimer := none, holdTimer := some ⟨now, cfg.holdLimit * 1000 * 1000⟩ }
        iface := x.iface.drive now cfg ⟨false, false, false, false⟩ } := by
  unfold Head.motionLeave
  rcases fills with h | h <;> rw [h] <;> rfl

theorem Head.motionLeave_elsewhere {now : Nat} {cfg : ConfigBlock} {x : Head}
    (elsewhere : ¬ (x.seq.state = .fillFast ∨ x.seq.state = .fillSlow)) : x.motionLeave now cfg = x := by
  unfold Head.motionLeave
  split
  · rename_i h
    exact absurd (.inl h) elsewhere
  · rename_i h
    exact absurd (.inr h) elsewhere
  · rfl

theorem Head.firstAdvance_of_held {now : Nat} {cfg : ConfigBlock} {x : Head} {p : Plan} (plan : x.seq.plan = some p)
    (held : x.seq.state = .held) :
    x.firstAdvance now cfg =
      { x with
        seq := { x.seq with
          state := .fillSlow, resumed := true, holdTimer := none, noFlowTimer := some ⟨now, p.noFlow * 1000⟩ }
        iface := x.iface.drive now cfg ⟨false, false, true, false⟩ } := by
  simp only [Head.firstAdvance, held, plan]
  rfl

theorem Head.firstAdvance_elsewhere {now : Nat} {cfg : ConfigBlock} {x : Head} (elsewhere : x.seq.state ≠ .held) :
    x.firstAdvance now cfg = x := by
  unfold Head.firstAdvance
  split
  · rename_i h
    exact absurd h elsewhere
  · rfl

/-! ### The wrap (R6, R15, R16, R142) -/

/-- What the wrap of an advance makes of the clocks and the speed, and of the queue, in a turn of 8 counts or more. -/
theorem State.advance_wrap (wraps : s.tracker.angle + 1 = s.cfg.t) (turn : 8 ≤ s.cfg.t) :
    s.advance.tracker.ref = s.tracker.ref ∧
    s.advance.tracker.speed =
      (if s.tracker.ref = .tracking ∧ s.tracker.timingMark = true then
        roundHalfUp (3600000 * s.cfg.n) (revolutionTime s.now s.tracker.revStart)
      else s.tracker.speed) ∧
    s.advance.tracker.timingMark = decide (s.tracker.ref = .tracking ∧ s.tracker.motion ≠ .reversing) ∧
    ∀ r ∈ s.advance.queue.held, (s.advance.tracker.revolutions - r.body.revolution).toNat < s.cfg.horizon := by
  have delivered := s.moved_boundaries
  have start := s.moved_frame
  have moved := s.moved_tracker
  obtain ⟨-, -, -, revolutions, -⟩ := s.advance_keeps
  rw [revolutions, s.advance_at_wrap_beforeDeadline wraps turn]
  have tracker := s.moved.deliverBoundaries.expireTraces.speedStep_tracker
  rw [State.expireTraces_tracker, State.expireTraces_cfg, State.expireTraces_now, delivered.tracker, delivered.cfg,
    delivered.now] at tracker
  have queue := s.moved.deliverBoundaries.speedStep_queue
  rw [delivered.tracker, delivered.cfg] at queue
  have cfg : s.moved.cfg = s.cfg := by rw [start]
  have now : s.moved.now = s.now := by rw [start]
  rw [cfg, now] at tracker
  rw [cfg] at queue
  have runs : (s.moved.tracker.motion = .running) = (s.tracker.motion ≠ .reversing) := by
    rw [moved]
    cases s.tracker.motion <;> simp
  have ref : s.moved.tracker.ref = s.tracker.ref := by rw [moved]
  have timingMark : s.moved.tracker.timingMark = s.tracker.timingMark := by rw [moved]
  have speed : s.moved.tracker.speed = s.tracker.speed := by rw [moved]
  have revStart : s.moved.tracker.revStart = s.tracker.revStart := by rw [moved]
  rw [tracker, queue]
  simp only [runs, ref, timingMark, speed, revStart]
  exact ⟨trivial, trivial, trivial, fun r hr => ((TraceQueue.mem_expire _ _ _ r).mp hr).2⟩

/-- The revolution clock of an advance: restarted at the wrap, and otherwise as it was (R6). -/
theorem State.advance_revStart :
    s.advance.tracker.revStart = if s.tracker.angle + 1 = s.cfg.t then s.now else s.tracker.revStart := by
  have delivered := s.moved_boundaries
  obtain ⟨-, -, -, -, -, revStart, -⟩ := s.beforeDeadline.indexDeadline_keeps
  rw [s.advance_eq, revStart]
  unfold State.beforeDeadline
  split
  · rw [State.speedStep_tracker]
    dsimp only
    rw [State.expireTraces_now, delivered.now, s.moved_frame]
  · rw [delivered.tracker, s.moved_tracker]

/-- Off the wrap the speed stands, unless the index deadline raises ANGLE_FAULT (R11, R12). -/
theorem State.advance_speed (off : s.tracker.angle + 1 ≠ s.cfg.t) :
    s.advance.tracker.speed = s.tracker.speed ∨ s.advance.tracker.ref = .fault := by
  obtain ⟨-, -, -, -, -, -, speed⟩ := s.moved.deliverBoundaries.indexDeadline_keeps
  rw [s.advance_off_wrap off]
  refine speed.imp_left fun same => ?_
  rw [same, s.moved_boundaries.tracker, s.moved_tracker]

end Sys2Proof.Machine

namespace Sys2Proof.Proofs

open Sys2Proof.Machine

/-- Settles O9: the decoding is a finite table, and each count is one branch of `forwardCount` or `reverseCount`. -/
theorem encoderChangesDecodeToCounts : Obligations.EncoderChangesDecodeToCounts := by
  refine ⟨fun dt a b infeed s => ⟨exec_encoderCount_forward, exec_encoderCount_reverse, exec_encoderCount_both,
    exec_encoderCount_unchanged⟩, fun s => ⟨fun owed => s.forwardCount_of_debt owed,
    fun paid => s.forwardCount_of_no_debt paid, fun within => ⟨fun still => s.reverseCount_within within still,
    fun runs => s.reverseCount_running within runs⟩, fun past => s.reverseCount_past past⟩⟩

/-- Settles O10: an advance is the motion step, the moved angle, the boundaries, at the wrap expiry and the speed step,
and the index deadline; what each leaves of the tracker gives the next state. -/
theorem advancesMoveTheAngleForward : Obligations.AdvancesMoveTheAngleForward := by
  refine ⟨fun dt a b infeed s rows paid => ?_, fun dt a b infeed s rows paid below => ?_, fun now cfg x =>
    ⟨fun p plan held => Head.firstAdvance_of_held plan held, Head.firstAdvance_elsewhere⟩, fun s => ⟨?_, ?_, ?_⟩⟩
  · intro now arrived moving
    have count : exec (.encoderCount dt a b infeed) s = .next arrived.advance := by
      rw [exec_encoderCount_forward rows]
      exact congrArg _ (arrived.forwardCount_of_no_debt paid)
    have motion : arrived.advanceMotion = moving := arrived.advanceMotion_eq
    have at_count : moving.tracker.angle = s.tracker.angle ∧ moving.tracker.revolutions = s.tracker.revolutions ∧
        moving.cfg = s.cfg := by
      rw [← motion, arrived.advanceMotion_frame, arrived.advanceMotion_tracker]
      exact ⟨rfl, rfl, rfl⟩
    obtain ⟨angle, revolutions, cfg⟩ := at_count
    have moved : arrived.moved = moving.moveAngle := congrArg State.moveAngle motion
    refine ⟨fun off => ?_, fun wraps => ?_⟩
    · rw [count, arrived.advance_off_wrap off, moved, State.moveAngle, State.wraps, angle, cfg,
        decide_eq_false off]
      rfl
    · intro delivered
      have turned : moving.moveAngle =
          { moving with tracker := { moving.tracker with angle := 0, revolutions := s.tracker.revolutions + 1 } } := by
        rw [State.moveAngle, State.wraps, angle, cfg, decide_eq_true wraps, revolutions]
        rfl
      have kept : CycleFrame moving.moveAngle delivered := by
        rw [turned]
        exact .deliverBoundaries _
      have expired : delivered.expireTraces =
          { delivered with queue := delivered.queue.expire (s.tracker.revolutions + 1) s.cfg.horizon } := by
        rw [State.expireTraces, kept.tracker, kept.cfg, turned, cfg]
      rw [count, arrived.advance_at_wrap wraps, moved, turned]
      exact congrArg (fun x => Host.Outcome.next x.speedStep.indexDeadline) expired
  · have count : exec (.encoderCount dt a b infeed) s =
        .next ({ s.elapse dt with encA := a, encB := b, infeed := infeed }).advance := by
      rw [exec_encoderCount_forward rows]
      exact congrArg _ (State.forwardCount_of_no_debt _ paid)
    generalize start : ({ s.elapse dt with encA := a, encB := b, infeed := infeed } : State) = x at count
    have tracker : x.tracker = s.tracker := by rw [← start]; rfl
    have cfg : x.cfg = s.cfg := by rw [← start]; rfl
    have now : x.now = s.now + dt := by rw [← start]; rfl
    have rest : x.tuning = s.tuning ∧ x.recipes = s.recipes ∧ x.estop = s.estop := by rw [← start]; exact ⟨rfl, rfl, rfl⟩
    obtain ⟨angle, debt, motion, revolutions, stopStart, cfg', tuning', recipes', estop'⟩ := x.advance_keeps
    rw [x.moved_tracker, tracker, cfg] at angle motion revolutions
    have revStart := x.advance_revStart
    rw [tracker, cfg, now] at revStart
    refine ⟨_, count, ?_, revolutions, ?_, by rw [stopStart, now], fun forward => ?_, fun wraps => ?_, fun off => ?_,
      cfg'.trans cfg, tuning'.trans rest.1, recipes'.trans rest.2.1, estop'.trans rest.2.2⟩
    · rw [angle]
      by_cases wraps : s.tracker.angle + 1 = s.cfg.t
      · simp [wraps]
      · rw [if_neg wraps, Nat.mod_eq_of_lt (by omega)]
    · rw [debt, tracker, paid]
    · rw [motion]
      cases m : s.tracker.motion with
      | stopped | running => rfl
      | reversing => exact absurd m forward
    · refine ⟨revStart.trans (if_pos wraps), fun turn => ?_⟩
      have wrap := State.advance_wrap (s := x) (by rw [tracker, cfg]; exact wraps) (by rw [cfg]; exact turn)
      rw [tracker, cfg, now] at wrap
      exact wrap
    · refine ⟨revStart.trans (if_neg off), ?_⟩
      have speed := State.advance_speed (s := x) (by rw [tracker, cfg]; exact off)
      rwa [tracker] at speed
  · intro tracking runs
    rw [State.speedStep, if_pos tracking]
    simp only [runs]
    rfl
  · exact fun elsewhere => if_neg elsewhere
  · intro heads speed
    rw [State.speedStep_tracker]
    dsimp only
    split
    · exact (roundHalfUp_le (Nat.lt_of_lt_of_le Nat.zero_lt_one (Nat.le_max_left ..))).trans (by omega)
    · exact speed

/-- Settles O11: the three reference states of `indexArrival`, and the three branches of its check. -/
theorem indexArrivalsAreTakenByReference : Obligations.IndexArrivalsAreTakenByReference := by
  intro dt infeed s s' marked e
  have arrival : exec (.indexArrival dt infeed) s = .next s'.indexArrival := rfl
  have checked : s.tracker.ref = .tracking → s.tracker.debt = 0 → s'.indexArrival = marked.indexCheck :=
    fun tracking paid => (State.indexArrival_of_tracking (s := s') tracking).trans (if_neg (by simp [s', paid]))
  rw [arrival]
  refine ⟨fun fault => congrArg _ (State.indexArrival_of_fault (s := s') fault), fun free owed => ?_,
    fun free paid => ?_, fun tracking owed => ?_, fun tracking paid =>
      ⟨fun within => ?_, fun past first => ?_, fun past again => ?_⟩⟩
  · exact congrArg _ ((State.indexArrival_of_unreferenced (s := s') free).trans (if_pos owed))
  · exact congrArg _ ((State.indexArrival_of_unreferenced (s := s') free).trans (if_neg (by simp [s', paid])))
  · exact congrArg _ ((State.indexArrival_of_tracking (s := s') tracking).trans (if_pos owed))
  · exact congrArg _ ((checked tracking paid).trans (State.indexCheck_within (s := marked) within))
  · exact congrArg _ ((checked tracking paid).trans (State.indexCheck_slip (s := marked) past first))
  · exact congrArg _ ((checked tracking paid).trans (State.indexCheck_fault (s := marked) past again))

/-- Settles O12: a correction is a number of counts, each within the limit or the one that passes it, or forward up to
the wrap. -/
theorem correctionsEndWhereTheIndexSays : Obligations.CorrectionsEndWhereTheIndexSays := by
  refine fun s paid below => ⟨fun k positive => ?_, fun k positive turn => ?_, rfl⟩
  · rw [State.correct_positive positive]
    refine ⟨fun within => ?_, fun past => ?_⟩
    · obtain ⟨debt, angle, motion, ref⟩ := reverseCounts_within (s := s) k (by omega)
      exact ⟨by rw [debt]; omega, angle, motion positive, ref⟩
    · exact reverseCounts_past k (by omega) (by omega)
  · rw [State.correct_negative]
    exact forwardCounts_to_wrap k positive paid turn

/-- Settles O14: the stop clock ends RUNNING by motion-leave, or nothing happens. -/
theorem stopTimeoutHoldsTheFills : Obligations.StopTimeoutHoldsTheFills := by
  refine fun dt s => ⟨fun runs due => ?_, fun waits => ?_⟩
  · have stops : (s.elapse dt).checkStop = (s.elapse dt).leaveRunning .stopped :=
      State.checkStop_of_stops _ ⟨runs, due⟩
    refine ⟨_, rfl, ?_, fun h below fills => ?_, fun h elsewhere => ?_, ?_⟩
    · rw [stops, State.leaveRunning_eq]
      rfl
    · rw [stops, State.head_leaveRunning]
      exact (if_pos below).trans (Head.motionLeave_of_fill fills)
    · rw [stops, State.head_leaveRunning]
      split
      · rename_i below
        exact Head.motionLeave_elsewhere (elsewhere.resolve_left (not_le.mpr below))
      · rfl
    · rw [stops]
      rfl
  · refine congrArg _ (State.checkStop_of_not_stops _ fun stops => ?_)
    rcases waits with still | early
    · exact still stops.1
    · exact absurd stops.2 (not_le.mpr early)

end Sys2Proof.Proofs
end

section
/-! ## Timers, pressure filter, coil senses and ESTOP (R28, R31, R32, R34, R50, R55, R58, R60) -/

namespace Sys2Proof.Machine

variable (s : State) (h : HeadId) (dt : Nat)

/-! ### Timers -/

theorem timerDue_iff (now : Nat) (timer : Option Timer) :
    timerDue now timer = true ↔ ∃ t, timer = some t ∧ t.start + t.period ≤ now := by
  cases timer with
  | none => simp [timerDue]
  | some t => simp [timerDue]

theorem timerDue_of_some {now : Nat} {timer : Option Timer} {t : Timer} (runs : timer = some t)
    (due : t.start + t.period ≤ now) : timerDue now timer = true :=
  (timerDue_iff now timer).mpr ⟨t, runs, due⟩

theorem not_timerDue {now : Nat} {timer : Option Timer}
    (early : ∀ t, timer = some t → now < t.start + t.period) : ¬ timerDue now timer = true := by
  rw [timerDue_iff]
  rintro ⟨t, runs, due⟩
  exact absurd due (not_le.mpr (early t runs))

/-- A change of one head by its own value is a change to that value. -/
theorem State.updHead_const (f : Head → Head) : s.updHead h f = s.updHead h fun _ => f (s.head h) := rfl

theorem State.updHead_same {y : Head} (same : y = s.head h) : (s.updHead h fun _ => y) = s :=
  s.updHead_self h _ same

/-! ### The timers of a cycle -/

section

variable (now : Nat) (cfg : ConfigBlock) {x : Head}

theorem Head.onNoFlow_of_due (fills : x.seq.state = .fillFast ∨ x.seq.state = .fillSlow)
    (due : timerDue now x.seq.noFlowTimer = true) :
    x.onNoFlow now cfg =
      ({ x with seq := { x.seq with outcome := some (x.seq.outcome.getD .noFlow) } }).enterSettle now cfg := by
  rw [← Sequencer.setOutcome_eq]
  rcases fills with st | st <;> simp only [Head.onNoFlow, st, due, if_true]

theorem Head.onNoFlow_otherwise
    (idle : ¬ (x.seq.state = .fillFast ∨ x.seq.state = .fillSlow) ∨ ¬ timerDue now x.seq.noFlowTimer = true) :
    x.onNoFlow now cfg = x := by
  unfold Head.onNoFlow
  split
  · rename_i st
    exact if_neg (idle.resolve_left (not_not.mpr (.inl st)))
  · rename_i st
    exact if_neg (idle.resolve_left (not_not.mpr (.inr st)))
  · rfl

theorem Head.onHold_of_due (holds : x.seq.state = .held) (due : timerDue now x.seq.holdTimer = true) :
    x.onHold now cfg =
      ({ x with seq := { x.seq with outcome := some (x.seq.outcome.getD .aborted) } }).enterSnift now cfg := by
  rw [← Sequencer.setOutcome_eq]
  simp only [Head.onHold, holds, due, if_true]
  rfl

theorem Head.onHold_otherwise (idle : x.seq.state ≠ .held ∨ ¬ timerDue now x.seq.holdTimer = true) :
    x.onHold now cfg = x := by
  unfold Head.onHold
  split
  · rename_i st
    exact if_neg (idle.resolve_left (not_not.mpr st))
  · rfl

theorem Head.onSettled_of_due (settles : x.seq.state = .settle) (due : timerDue now x.seq.settleTimer = true) :
    x.onSettled now cfg =
      if x.seq.sniftAngle then
        ({ x with seq := { x.seq with settleTimer := none, settleDone := true } }).startSnift now cfg
      else { x with seq := { x.seq with settleTimer := none, settleDone := true } } := by
  simp only [Head.onSettled, settles, due, if_true]

theorem Head.onSettled_otherwise (idle : x.seq.state ≠ .settle ∨ ¬ timerDue now x.seq.settleTimer = true) :
    x.onSettled now cfg = x := by
  unfold Head.onSettled
  split
  · rename_i st
    exact if_neg (idle.resolve_left (not_not.mpr st))
  · rfl

end

theorem exec_noFlowExpiry :
    exec (.noFlowExpiry dt h.val) s =
      .next ((s.elapse dt).updHead h fun _ => (s.head h).onNoFlow (s.now + dt) s.cfg) :=
  onHead_val (s.elapse dt) h fun h x => x.updHead h (Head.onNoFlow x.now x.cfg)

theorem exec_holdExpiry :
    exec (.holdExpiry dt h.val) s =
      .next ((s.elapse dt).updHead h fun _ => (s.head h).onHold (s.now + dt) s.cfg) :=
  onHead_val (s.elapse dt) h fun h x => x.updHead h (Head.onHold x.now x.cfg)

theorem exec_settleTimerExpiry :
    exec (.settleTimerExpiry dt h.val) s =
      .next ((s.elapse dt).updHead h fun _ => (s.head h).onSettled (s.now + dt) s.cfg) :=
  onHead_val (s.elapse dt) h fun h x => x.updHead h (Head.onSettled x.now x.cfg)

theorem exec_sniftTimerExpiry :
    exec (.sniftTimerExpiry dt h.val) s = .next ((s.elapse dt).sniftDone h) := onHead_val ..

theorem State.sniftDone_of_due (snifts : (s.head h).seq.state = .snift)
    (due : timerDue s.now (s.head h).seq.sniftTimer = true) :
    s.sniftDone h =
      (s.updHead h fun _ =>
        { s.head h with
          seq := { (s.head h).seq with state := .discharge, sniftTimer := none }
          iface := (s.head h).iface.drive s.now s.cfg ⟨false, false, false, false⟩ }).drainCheck :=
  if_pos ⟨snifts, due⟩

theorem State.sniftDone_otherwise
    (idle : (s.head h).seq.state ≠ .snift ∨ ¬ timerDue s.now (s.head h).seq.sniftTimer = true) :
    s.sniftDone h = s :=
  if_neg fun both => idle.elim (· both.1) (· both.2)

/-! ### The pressure filter (R28) -/

theorem exec_psPinChange (level : Bool) :
    exec (.psPinChange dt h.val level) s = .next ((s.elapse dt).psLevel level h) := onHead_val ..

theorem exec_pressureFilterExpiry :
    exec (.pressureFilterExpiry dt h.val) s = .next ((s.elapse dt).filterDone h) := onHead_val ..

theorem State.psLevel_of_standing {level : Bool} (stands : (s.head h).psPin = level) : s.psLevel level h = s :=
  if_pos stands

/-- A pin of a head below N that changes acts on the filter (R28). -/
theorem State.psLevel_of_change {level : Bool} (changes : (s.head h).psPin ≠ level) (below : h.val < s.cfg.n) :
    s.psLevel level h = s.updHead h fun _ =>
      { s.head h with
        psPin := level
        iface := { (s.head h).iface with filter := filterOn s.now level (s.head h).iface } } := by
  rw [State.psLevel, if_neg changes]
  simp only [if_pos below]
  rfl

/-- A pin of a head at or above N is its level alone (R22). -/
theorem State.psLevel_above (level : Bool) (above : s.cfg.n ≤ h.val) :
    s.psLevel level h = s.updHead h fun _ => { s.head h with psPin := level } := by
  by_cases stands : (s.head h).psPin = level
  · rw [s.psLevel_of_standing h stands, State.updHead_same]
    rw [← stands]
  · rw [State.psLevel, if_neg stands]
    simp only [if_neg (not_lt.mpr above)]
    rfl

theorem filterOn_of_level {now : Nat} {level : Bool} {i : Iface} (back : level = i.pressure) :
    filterOn now level i = none := if_pos back

theorem filterOn_of_idle {now : Nat} {level : Bool} {i : Iface} (away : level ≠ i.pressure) (idle : i.filter = none) :
    filterOn now level i = some ⟨level, now⟩ := by
  rw [filterOn, if_neg away, idle]

theorem filterOn_of_running {now : Nat} {level : Bool} {i : Iface} (away : level ≠ i.pressure)
    (runs : i.filter ≠ none) : filterOn now level i = i.filter := by
  obtain ⟨f, hf⟩ := Option.ne_none_iff_exists'.mp runs
  rw [filterOn, if_neg away, hf]

/-- The filter of a head below N completes 2 ms after it started (R28). -/
theorem State.filterDone_of_due {f : PressureFilter} (runs : (s.head h).iface.filter = some f) (below : h.val < s.cfg.n)
    (due : f.start + 2000 ≤ s.now) :
    s.filterDone h =
      let s' := s.updHead h fun _ =>
        { s.head h with iface := { (s.head h).iface with pressure := f.candidate, filter := none } }
      if f.candidate then s'.updHead h (Head.switchAssert s.now s.cfg) else s'.switchRelease h := by
  simp only [State.filterDone, runs]
  exact if_pos ⟨below, due⟩

theorem State.filterDone_otherwise
    (idle : s.cfg.n ≤ h.val ∨ ∀ f, (s.head h).iface.filter = some f → s.now < f.start + 2000) :
    s.filterDone h = s := by
  unfold State.filterDone
  split
  · rfl
  · rename_i f runs
    refine if_neg fun both => ?_
    rcases idle with above | early
    · exact absurd both.1 (not_lt.mpr above)
    · exact absurd both.2 (not_le.mpr (early f runs))

/-! ### Coil senses (R31, R32) -/

theorem exec_coilSenseChange (o : Output) (level : Bool) :
    exec (.coilSenseChange dt h.val o level) s = .next ((s.elapse dt).senseLevel o level h) := onHead_val ..

theorem exec_valveSettleExpiry (o : Output) :
    exec (.valveSettleExpiry dt h.val o) s = .next ((s.elapse dt).outputSettled o h) := onHead_val ..

theorem Outputs.put_get {α : Type} (x : Outputs α) (o : Output) : x.put o (x.get o) = x := by
  cases o <;> rfl

/-- The state with a settle timer ended. -/
def State.settled (s : State) (o : Output) (h : HeadId) : State :=
  s.updHead h fun _ =>
    { s.head h with iface := { (s.head h).iface with settle := (s.head h).iface.settle.put o none } }

/-- The state with a sense level taken. -/
def State.sensed (s : State) (o : Output) (level : Bool) (h : HeadId) : State :=
  s.updHead h fun _ => { s.head h with sense := (s.head h).sense.put o level }

theorem State.outputSettled_of_due {o : Output}
    (due : timerDue s.now ((s.head h).iface.settle.get o) = true) :
    s.outputSettled o h =
      if h.val < s.cfg.n ∧ (s.head h).sense.get o ≠ (s.head h).iface.cmd.get o then (s.settled o h).readbackFault h
      else s.settled o h :=
  if_pos due

theorem State.outputSettled_early {o : Output}
    (early : ¬ timerDue s.now ((s.head h).iface.settle.get o) = true) : s.outputSettled o h = s :=
  if_neg early

theorem State.senseLevel_of_standing {o : Output} {level : Bool} (stands : (s.head h).sense.get o = level) :
    s.senseLevel o level h = s :=
  if_pos stands

theorem State.senseLevel_of_change {o : Output} {level : Bool} (changes : (s.head h).sense.get o ≠ level) :
    s.senseLevel o level h =
      if h.val < s.cfg.n ∧ (s.head h).iface.settle.get o = none ∧ level ≠ (s.head h).iface.cmd.get o then
        (s.sensed o level h).readbackFault h
      else s.sensed o level h :=
  if_neg changes

/-- A level that stands is taken as it is. -/
theorem State.sensed_of_standing {o : Output} {level : Bool} (stands : (s.head h).sense.get o = level) :
    s.sensed o level h = s := by
  refine s.updHead_same h ?_
  rw [← stands, Outputs.put_get]

end Sys2Proof.Machine

namespace Sys2Proof.Proofs

open Sys2Proof.Machine

/-- Settles O17: a pin change is a change of the filter or of nothing, and the filter's expiry is the switch event. -/
theorem pressureChangesAreFiltered : Obligations.PressureChangesAreFiltered := by
  intro dt h level s x
  have expiry := exec_pressureFilterExpiry s h dt
  have change := exec_psPinChange s h dt level
  have moving : x.psPin ≠ level → h.val < s.cfg.n → (s.elapse dt).psLevel level h = _ :=
    (s.elapse dt).psLevel_of_change h
  refine ⟨fun above => ⟨?_, ?_⟩, fun below => ⟨fun changes back => ?_, fun changes away idle => ?_,
    fun changes away runs => ?_, fun stands => ?_, fun f runs due => ?_, fun early => ?_⟩⟩
  · rw [change, (s.elapse dt).psLevel_above h level above]
    rfl
  · rw [expiry, (s.elapse dt).filterDone_otherwise h (.inl above)]
  · rw [change, moving changes below, filterOn_of_level (i := ((s.elapse dt).head h).iface) back]
    rfl
  · rw [change, moving changes below, filterOn_of_idle (i := ((s.elapse dt).head h).iface) away idle]
    rfl
  · rw [change, moving changes below, filterOn_of_running (i := ((s.elapse dt).head h).iface) away runs]
    rfl
  · rw [change, (s.elapse dt).psLevel_of_standing h stands]
  · intro s'
    rw [expiry, (s.elapse dt).filterDone_of_due h (f := f) runs below due]
    rfl
  · rw [expiry, (s.elapse dt).filterDone_otherwise h (.inr early)]

/-- Settles O19: the end of a settle timer and a sense change with it idle are the two comparisons. -/
theorem sensesAreCheckedAgainstCommands : Obligations.SensesAreCheckedAgainstCommands := by
  intro dt h o level s x settled sensed
  have expiry := exec_valveSettleExpiry s h dt o
  have change := exec_coilSenseChange s h dt o level
  have due : ∀ t, x.iface.settle.get o = some t → t.start + t.period ≤ s.now + dt →
      (s.elapse dt).outputSettled o h =
        if h.val < s.cfg.n ∧ x.sense.get o ≠ x.iface.cmd.get o then settled.readbackFault h else settled :=
    fun t runs ended => (s.elapse dt).outputSettled_of_due h (timerDue_of_some runs ended)
  have standing : x.sense.get o = level → (s.elapse dt).senseLevel o level h = s.elapse dt :=
    (s.elapse dt).senseLevel_of_standing h
  have moving : x.sense.get o ≠ level → (s.elapse dt).senseLevel o level h =
      if h.val < s.cfg.n ∧ x.iface.settle.get o = none ∧ level ≠ x.iface.cmd.get o then sensed.readbackFault h
      else sensed := (s.elapse dt).senseLevel_of_change h
  refine ⟨fun above => ⟨?_, fun t runs ended => ?_⟩, fun t runs below ended => ?_, fun early => ?_,
    fun below changes idle => ?_, fun changes runs => ?_, fun stands => ?_⟩
  · rw [change]
    by_cases stands : x.sense.get o = level
    · rw [standing stands]
      exact congrArg _ ((s.elapse dt).sensed_of_standing h stands).symm
    · rw [moving stands, if_neg fun all => absurd all.1 (not_lt.mpr above)]
  · rw [expiry, due t runs ended, if_neg fun all => absurd all.1 (not_lt.mpr above)]
  · rw [expiry, due t runs ended]
    by_cases agree : x.sense.get o = x.iface.cmd.get o
    · rw [if_neg fun all => all.2 agree, if_pos agree]
    · rw [if_pos ⟨below, agree⟩, if_neg agree]
  · rw [expiry, State.outputSettled_early _ h (not_timerDue early)]
  · rw [change, moving changes]
    by_cases agree : level = x.iface.cmd.get o
    · rw [if_neg fun all => all.2.2 agree, if_pos agree]
    · rw [if_pos ⟨below, idle, agree⟩, if_neg agree]
  · rw [change, moving changes, if_neg fun all => runs all.2.1]
  · rw [change, standing stands]

/-- Settles O21: ESTOP is its level, and its assertion HALT entry. -/
theorem estopAssertionEntersHalt : Obligations.EstopAssertionEntersHalt := by
  refine fun dt s => ⟨fun level quiet => ?_, fun released running => ?_⟩
  · simp only [exec, execEstopChange]
    rcases quiet with asserted | low | halted
    · rw [if_neg (by simp [asserted])]
    · rw [if_neg (by simp [low])]
    · split
      · exact congrArg _ (State.enterHalt_of_halt _ halted)
      · rfl
  · have entry : exec (.estopChange dt true) s = .next ({ s.elapse dt with estop := true }).enterHalt := by
      simp only [exec, execEstopChange, released, and_self, if_true]
    refine ⟨_, entry, ?_, State.enterHalt_mode _, fun h => ?_, fun p => ?_, ?_⟩
    · rw [State.enterHalt_frame]
    · exact ({ s.elapse dt with estop := true } : State).head_enterHalt running h
    · exact (State.events_enterHalt _ p).trans ((if_neg running).trans (by cases p <;> rfl))
    · have mode := ({ s.elapse dt with estop := true } : State).enterHalt_mode
      have frame := ({ s.elapse dt with estop := true } : State).enterHalt_frame
      rwa [mode] at frame

/-- Settles O23: each timer acts when it is due in its own state, and otherwise leaves its head. -/
theorem cycleTimersActAtTheirExpiry : Obligations.CycleTimersActAtTheirExpiry := by
  intro dt h s x now s'
  have noFlow := exec_noFlowExpiry s h dt
  have hold := exec_holdExpiry s h dt
  have settled := exec_settleTimerExpiry s h dt
  have snift := exec_sniftTimerExpiry s h dt
  have still : ∀ {y : Head}, y = x → (s'.updHead h fun _ => y) = s' := fun same => s'.updHead_same h same
  refine ⟨fun t runs due fills => ?_, fun t runs due holds => ?_, fun t runs due settles => ?_,
    fun t runs due snifts => ?_, fun idle => ?_, fun idle => ?_, fun idle => ?_, fun idle => ?_⟩
  · rw [noFlow, Head.onNoFlow_of_due _ _ fills (timerDue_of_some runs due)]
  · rw [hold, Head.onHold_of_due _ _ holds (timerDue_of_some runs due)]
  · rw [settled, Head.onSettled_of_due _ _ settles (timerDue_of_some runs due)]
  · rw [snift, (s.elapse dt).sniftDone_of_due h snifts (timerDue_of_some runs due)]
    rfl
  · rw [noFlow, still (Head.onNoFlow_otherwise _ _ (idle.imp_right not_timerDue))]
  · rw [hold, still (Head.onHold_otherwise _ _ (idle.imp_right not_timerDue))]
  · rw [settled, still (Head.onSettled_otherwise _ _ (idle.imp_right not_timerDue))]
  · rw [snift, (s.elapse dt).sniftDone_otherwise h (idle.imp_right not_timerDue)]

end Sys2Proof.Proofs
end

section
/-! ## Boundaries, HALT entry and releases at one head (R17, R18, R45 to R51, R58 to R70) -/

namespace Sys2Proof.Machine

/-! ### The settle end without a lead, and entry to SNIFT (R59, R61, R66, R87) -/

section

variable (now : Nat) (cfg : ConfigBlock) {x : Head}

/-- A settle end that is cut short teaches no lead (R61, R66, R87). -/
theorem settleEnd_entry_of_short (short : x.seq.shortSettle = true) : (settleEnd x).entry = x.entry := by
  cases plan : x.seq.plan with
  | none => rw [settleEnd, plan]
  | some p =>
    rw [settleEnd_eq plan, Sequencer.setOutcome_eq]
    refine if_neg fun learns => ?_
    obtain ⟨-, -, whole⟩ := (learnsLead_iff _).mp learns
    rw [short] at whole
    cases whole

/-- A settle end moves nothing of the cycle but its outcome. -/
theorem settleEnd_seq (x : Head) : (settleEnd x).seq = { x.seq with outcome := (settleEnd x).seq.outcome } := by
  obtain ⟨o, lead, shape, -, -⟩ := settleEnd_shape x
  rw [shape]

theorem settleEnd_outcome_of_plan {p : Plan} (plan : x.seq.plan = some p) :
    (settleEnd x).seq.outcome = some (x.seq.outcome.getD (decideOutcome p x.seq)) := by
  rw [settleEnd_eq plan, Sequencer.setOutcome_eq]

theorem Head.endWith_eq (o : FillOutcome) :
    x.endWith now cfg o =
      ({ x with seq := { x.seq with outcome := some (x.seq.outcome.getD o) } }).enterSnift now cfg := by
  rw [Head.endWith, Sequencer.setOutcome_eq]

theorem Head.enterSnift_of_plan {p : Plan} (plan : x.seq.plan = some p) :
    x.enterSnift now cfg =
      { x with
        seq := { x.seq with
          state := .snift, noFlowTimer := none, holdTimer := none, settleTimer := none, fillClock := none,
          sniftTimer := some ⟨now, p.snift * 1000⟩ }
        iface := x.iface.drive now cfg ⟨false, false, false, true⟩ } := by
  simp only [Head.enterSnift, plan]
  rfl

/-! ### HALT entry by fill state (R66) -/

theorem Head.haltEntry_of_fill
    (st : x.seq.state ∈ [FillState.pressurizing, .pressurized, .fillFast, .fillSlow, .held]) :
    x.haltEntry now cfg = x.endWith now cfg .aborted := by
  unfold Head.haltEntry
  cases h : x.seq.state with
  | pressurizing | pressurized | fillFast | fillSlow | held => rfl
  | idle | armed | settle | snift | discharge | pass => simp [h] at st

theorem Head.haltEntry_of_settle (st : x.seq.state = .settle) :
    x.haltEntry now cfg = ({ x with seq := { x.seq with shortSettle := true } }).startSnift now cfg := by
  simp only [Head.haltEntry, st]

theorem Head.haltEntry_of_armed (st : x.seq.state = .armed) :
    x.haltEntry now cfg =
      ({ x with seq := { x.seq with plan := none, outcome := some .notFilled, reason := some .halt } }).enter now cfg
        .pass := by
  simp only [Head.haltEntry, st]

theorem Head.haltEntry_elsewhere (st : x.seq.state ∈ [FillState.idle, .snift, .discharge, .pass]) :
    x.haltEntry now cfg = x := by
  unfold Head.haltEntry
  cases h : x.seq.state with
  | idle | snift | discharge | pass => rfl
  | pressurizing | pressurized | fillFast | fillSlow | held | armed | settle => simp [h] at st

/-! ### The four windows before release (R45, R47, R51, R58) -/

theorem Head.onPress_of_armed (st : x.seq.state = .armed) :
    x.onPress now cfg =
      x.enter now cfg (if x.iface.cmd.p = false ∧ x.iface.pressure = true then .pressurized else .pressurizing) := by
  simp only [Head.onPress, st, Head.enter_pressurizing_switchAssert]
  split <;> rfl

theorem Head.onPress_elsewhere (st : x.seq.state ≠ .armed) : x.onPress now cfg = x := by
  unfold Head.onPress
  split
  · rename_i h
    exact absurd h st
  · rfl

theorem Head.onFill_of_pressurized {p : Plan} (plan : x.seq.plan = some p) (st : x.seq.state = .pressurized) :
    x.onFill now cfg =
      ({ x with seq := { x.seq with
        fillOpened := true, fillClock := some now, noFlowTimer := some ⟨now, p.noFlow * 1000⟩ } }).enter now cfg
        (if 0 < p.pSwitch then .fillFast else .fillSlow) := by
  simp only [Head.onFill, st, plan]
  rfl

theorem Head.onFill_of_pressurizing (st : x.seq.state = .pressurizing) :
    x.onFill now cfg = x.endWith now cfg .noPressure := by
  simp only [Head.onFill, st]

theorem Head.onFill_elsewhere (st : x.seq.state ≠ .pressurized) (st' : x.seq.state ≠ .pressurizing) :
    x.onFill now cfg = x := by
  unfold Head.onFill
  split
  · rename_i h
    exact absurd h st
  · rename_i h
    exact absurd h st'
  · rfl

theorem Head.onClose_of_fill (st : x.seq.state = .fillFast ∨ x.seq.state = .fillSlow) :
    x.onClose now cfg =
      ({ x with seq := { x.seq with outcome := some (x.seq.outcome.getD .short) } }).enterSettle now cfg := by
  rw [← Sequencer.setOutcome_eq]
  rcases st with h | h <;> simp only [Head.onClose, h]

theorem Head.onClose_elsewhere (st : x.seq.state ≠ .fillFast) (st' : x.seq.state ≠ .fillSlow) :
    x.onClose now cfg = x := by
  unfold Head.onClose
  split
  · rename_i h
    exact absurd h st
  · rename_i h
    exact absurd h st'
  · rfl

theorem Head.onSnift_of_settle (st : x.seq.state = .settle) :
    x.onSnift now cfg =
      if x.seq.settleDone then ({ x with seq := { x.seq with sniftAngle := true } }).startSnift now cfg
      else { x with seq := { x.seq with sniftAngle := true } } := by
  simp only [Head.onSnift, st]

theorem Head.onSnift_elsewhere (st : x.seq.state ≠ .settle) : x.onSnift now cfg = x := by
  unfold Head.onSnift
  split
  · rename_i h
    exact absurd h st
  · rfl

end

/-! ### The boundary set (R18) -/

/-- The windows of a plan with their counts. -/
def Plan.windows (p : Plan) : List (Boundary × Nat) :=
  [(.press, p.cPress), (.fill, p.cFill), (.close, p.cClose), (.snift, p.cSnift), (.release, p.cRelease)]

/-- A boundary is one of local 0, of a plan from ARMED to DISCHARGE, or of the header in PASS (R18). -/
theorem mem_boundariesAt_iff (q : Sequencer) (a : Nat) (b : Boundary) :
    b ∈ boundariesAt q a ↔
      (b = .infeed ∧ a = 0 ∨
        (∃ p, q.plan = some p ∧ q.state.holdsPlan = true ∧ (b, a) ∈ p.windows) ∨
        ∃ header, q.header = some header ∧ q.state = .pass ∧ b = .release ∧ a = header.release) := by
  have local0 : b ∈ (if a = 0 then [Boundary.infeed] else []) ↔ b = .infeed ∧ a = 0 := by
    rw [List.mem_ite_nil_right, List.mem_singleton]
    exact and_comm
  rw [boundariesAt, List.mem_append, local0]
  refine or_congr_right ?_
  by_cases plans : q.state.holdsPlan = true
  · have open_cycle : q.state ≠ .pass := fun st => by simp [st, FillState.holdsPlan] at plans
    rw [if_pos plans]
    cases plan : q.plan with
    | none => simp [open_cycle]
    | some p => simp [plans, open_cycle, Plan.windows, List.mem_ite_nil_right, and_comm]
  · rw [if_neg plans]
    by_cases passes : q.state = .pass
    · have closed : FillState.pass.holdsPlan = false := rfl
      rw [if_pos passes]
      cases header : q.header with
      | none => simp [passes, closed]
      | some hd => simp [passes, closed, List.mem_ite_nil_right, and_comm]
    · simp [plans, passes]

/-- Each boundary of a head comes once. -/
theorem boundariesAt_nodup (q : Sequencer) (a : Nat) : (boundariesAt q a).Nodup := by
  have windowSublist (c : Prop) [Decidable c] (b : Boundary) : (if c then [b] else []).Sublist [b] := by
    split
    · exact .refl _
    · exact List.nil_sublist _
  have windows (p : Plan) : ((if a = p.cPress then [Boundary.press] else []) ++
      (if a = p.cFill then [Boundary.fill] else []) ++ (if a = p.cClose then [Boundary.close] else []) ++
      (if a = p.cSnift then [Boundary.snift] else []) ++ (if a = p.cRelease then [Boundary.release] else [])).Sublist
        [.press, .fill, .close, .snift, .release] :=
    ((((windowSublist _ .press).append (windowSublist _ .fill)).append (windowSublist _ .close)).append
      (windowSublist _ .snift)).append (windowSublist _ .release)
  have all : (boundariesAt q a).Sublist [.infeed, .press, .fill, .close, .snift, .release] := by
    refine (windowSublist (a = 0) .infeed).append ?_
    split
    · split
      · exact windows _
      · exact List.nil_sublist _
    · split
      · split
        · exact (windowSublist _ .release).trans (List.sublist_append_right [Boundary.press, .fill, .close, .snift] _)
        · exact List.nil_sublist _
      · exact List.nil_sublist _
  exact all.nodup (by decide)

variable (s : State)

/-- Each boundary of an advance comes once. -/
theorem State.reached_nodup : s.reached.Nodup := by
  have own : ∀ (h : HeadId) (e : HeadId × Boundary), e ∈ (if h.val < s.cfg.n then
      (boundariesAt (s.head h).seq (s.localAngle h)).map fun b => (h, b) else []) → e.1 = h := by
    intro h e he
    rw [List.mem_ite_nil_right, List.mem_map] at he
    obtain ⟨-, b, -, rfl⟩ := he
    rfl
  refine List.nodup_flatMap.mpr ⟨fun h _ => ?_, ?_⟩
  · split
    · exact (boundariesAt_nodup ..).map fun b b' same => (Prod.mk.inj same).2
    · exact List.nodup_nil
  · refine (List.nodup_finRange 128).imp fun {h i} different e he hi => ?_
    exact different ((own h e he).symm.trans (own i e hi))

/-! ### Records and releases (R61, R68, R69, R70) -/

/-- The record that a cycle with a header and an outcome hands over (R68, R69). -/
theorem Head.draft_of_outcome {x : Head} {hd : CycleHeader} {o : FillOutcome} (id : HeadId) (revolution : U32)
    (cleared : Bool) (header : x.seq.header = some hd) (outcome : x.seq.outcome = some o) :
    x.draft id revolution cleared =
      some {
        head := id, slot := hd.slot, product := hd.product, vT := hd.vT, epoch := hd.epoch, outcome := o
        flags := recordFlags x.seq x.entry o hd.resumeReject cleared
        reason := if o = .notFilled then x.seq.reason else none
        metered := if x.seq.fillOpened then
            x.seq.plan.map fun p =>
              ⟨totalPulses x.seq, roundHalfUp (totalPulses x.seq * p.d) 100000000, p.pClose⟩
          else none
        close := x.seq.close
        revolution := revolution } := by
  simp only [Head.draft, header, outcome]
  cases x.seq.plan with
  | none => simp
  | some p => rfl

/-- HEAD_BLOCKED reaches the ports alone. -/
theorem State.raiseIfBlocked_frame (before after : Service) :
    s.raiseIfBlocked before after =
      { s with line := (s.raiseIfBlocked before after).line, insp := (s.raiseIfBlocked before after).insp } := by
  unfold State.raiseIfBlocked
  split
  · rfl
  · exact s.raise_eq _

/-- What a finished record is and leaves: the queue takes it, its head is idle with the record counted, and the rest
stands (R68 to R70). -/
structure State.Recorded (s : State) (h : HeadId) (d : RecordDraft) (t : State) : Prop where
  queue : t.queue = s.queue.accept s.cfg.traceMode d
  head : t.head h = { s.head h with
    seq := seqReset
    iface := (s.head h).iface.drive s.now s.cfg ⟨false, false, false, false⟩
    entry := (s.head h).entry.recorded d.outcome s.tuning.blockThreshold }
  other : ∀ j, j ≠ h → t.head j = s.head j
  frame : t = { s with queue := t.queue, heads := t.heads, line := t.line, insp := t.insp }

theorem State.makeRecord_recorded {h : HeadId} {cleared : Bool} {d : RecordDraft}
    (draft : (s.head h).draft h s.tracker.revolutions cleared = some d) :
    s.Recorded h d (s.makeRecord cleared h) := by
  rcases s.makeRecord_cases cleared h with ⟨none, -⟩ | ⟨d', some, made⟩
  · rw [none] at draft
    cases draft
  · rw [draft] at some
    obtain rfl := Option.some.inj some
    rw [made]
    refine ⟨?_, ?_, fun j hj => ?_, ?_⟩
    · rw [State.updHead_queue, State.raiseIfBlocked_frame]
      exact s.enqueue_queue d
    · rw [State.head_updHead_same, State.head_raiseIfBlocked, State.head_updHead_same, State.head_enqueue]
      rfl
    · rw [State.head_updHead_other _ h j _ hj.symm, State.head_raiseIfBlocked, State.head_updHead_other _ h j _ hj.symm,
        State.head_enqueue]
    · rw [State.raiseIfBlocked_frame, State.updHead, State.updHead, State.enqueue_eq]

/-- The release of a head in DISCHARGE or PASS (R61). -/
theorem State.onRelease_of_done {h : HeadId} (st : (s.head h).seq.state = .discharge ∨ (s.head h).seq.state = .pass) :
    s.onRelease h = s.makeRecord false h := by
  rcases st with st | st <;> simp only [State.onRelease, st]

/-- A drain that completes changes the mode and the ports alone (R174). -/
theorem State.drainCheck_queue : s.drainCheck.queue = s.queue := by
  unfold State.drainCheck
  split
  · exact s.setMode_queue _
  · rfl

/-- The head that an early release hands its record over from (R61). -/
def Head.releasedEarly (x : Head) : Head :=
  if x.seq.state = .settle then
    settleEnd { x with seq := { x.seq with sniftAngle := true, sniftShort := true, shortSettle := true } }
  else { x with seq := { x.seq with sniftShort := true, sniftTimer := none } }

theorem State.onRelease_early {h : HeadId} (st : (s.head h).seq.state = .settle ∨ (s.head h).seq.state = .snift) :
    s.onRelease h = ((s.updHead h Head.releasedEarly).makeRecord false h).drainCheck := by
  rcases st with st | st
  · have released : (s.head h).releasedEarly = settleEnd _ := if_pos st
    simp only [State.onRelease, st]
    rw [State.updHead_const _ _ Head.releasedEarly, released]
    rfl
  · have released : (s.head h).releasedEarly = _ := if_neg (by rw [st]; decide)
    simp only [State.onRelease, st]
    rw [State.updHead_const _ _ Head.releasedEarly, released]
    rfl

/-- An early release marks the record SNIFT_SHORT, and teaches no lead (R61). -/
theorem Head.releasedEarly_keeps (x : Head) :
    x.releasedEarly.seq.sniftShort = true ∧ x.releasedEarly.seq.header = x.seq.header ∧
    x.releasedEarly.entry = x.entry := by
  unfold Head.releasedEarly
  split
  · rw [settleEnd_entry_of_short rfl, settleEnd_seq]
    exact ⟨rfl, rfl, rfl⟩
  · exact ⟨rfl, rfl, rfl⟩

theorem Head.releasedEarly_of_settle {x : Head} {p : Plan} (st : x.seq.state = .settle) (plan : x.seq.plan = some p) :
    x.releasedEarly.seq.shortSettle = true ∧
    x.releasedEarly.seq.outcome = some (x.seq.outcome.getD (decideOutcome p x.seq)) := by
  rw [Head.releasedEarly, if_pos st]
  refine ⟨?_, settleEnd_outcome_of_plan plan⟩
  rw [settleEnd_seq]

theorem Head.releasedEarly_of_snift {x : Head} (st : x.seq.state ≠ .settle) :
    x.releasedEarly.seq.outcome = x.seq.outcome := by
  rw [Head.releasedEarly, if_neg st]

end Sys2Proof.Machine

namespace Sys2Proof.Proofs

open Sys2Proof.Machine

/-- Settles O22: HALT entry goes by the fill state, and every entry to SNIFT is one. -/
theorem haltEntryStopsEachFill : Obligations.HaltEntryStopsEachFill := by
  refine fun now cfg x => ⟨fun st => ?_, fun st => ?_, fun st => ?_, Head.haltEntry_elsewhere now cfg,
    fun p plan => Head.enterSnift_of_plan now cfg plan⟩
  · rw [Head.haltEntry_of_fill now cfg st]
    exact ⟨Head.endWith_eq now cfg _, rfl, Head.endWith_outcome .., rfl⟩
  · rw [Head.haltEntry_of_settle now cfg st]
    refine ⟨rfl, rfl, ?_, fun p plan => ?_, settleEnd_entry_of_short rfl⟩
    · change (settleEnd _).seq.shortSettle = true
      rw [settleEnd_seq]
    · exact settleEnd_outcome_of_plan (x := { x with seq := { x.seq with shortSettle := true } }) plan
  · rw [Head.haltEntry_of_armed now cfg st]
    exact ⟨rfl, rfl⟩

/-- Settles O24: the boundary set is that of R18, each boundary once, and each moves its head by its fill state. -/
theorem windowsMoveTheCycle : Obligations.WindowsMoveTheCycle := by
  refine ⟨fun s h b => ?_, fun s => ⟨s.reached_nodup, s.eachInSomeOrder_eq Prod.fst s.reached _⟩,
    fun s h => ⟨rfl, rfl, rfl, rfl, rfl, rfl⟩, fun now cfg x => ⟨fun st shut => ?_, fun p plan st => ?_, fun st => ?_,
    fun st => ?_, fun st waits => ?_, fun st done => ?_, Head.onPress_elsewhere now cfg, Head.onFill_elsewhere now cfg,
    Head.onClose_elsewhere now cfg, Head.onSnift_elsewhere now cfg⟩⟩
  · intro x angle
    simp only [s.mem_reached_iff, mem_boundariesAt_iff, FillState.holdsPlan_iff]
    rfl
  · rw [Head.onPress_of_armed now cfg st]
    cases pressure : x.iface.pressure <;> simp [shut, Head.enter, outputsOf]
  · rw [Head.onFill_of_pressurized now cfg plan st]
    refine ⟨rfl, ?_⟩
    split <;> rfl
  · rw [Head.onFill_of_pressurizing now cfg st]
    refine ⟨Head.endWith_eq now cfg _, rfl, Head.endWith_outcome .., ?_⟩
    rw [Head.endWith_eq]
    rfl
  · rw [Head.onClose_of_fill now cfg st]
    exact ⟨rfl, rfl, rfl⟩
  · rw [Head.onSnift_of_settle now cfg st, waits]
    rfl
  · rw [Head.onSnift_of_settle now cfg st, done]
    exact ⟨rfl, rfl⟩

/-- Settles O27: the record is what the cycle hands over, and an early release hands over a cycle that it has marked. -/
theorem releasesMakeOneRecord : Obligations.ReleasesMakeOneRecord := by
  refine ⟨fun h s hd o header outcome st => ?_, fun h s hd p header plan room st => ?_⟩
  · intro x t total d
    have flags : recordFlags x.seq x.entry o hd.resumeReject false = d.flags := by
      simp only [recordFlags, d, RecordFlags.mk.injEq, true_and]
      by_cases ok : o = .ok <;> simp [ok, Bool.or_assoc]
    have draft : x.draft h s.tracker.revolutions false = some d := by
      rw [Head.draft_of_outcome h _ _ header outcome, flags]
      rfl
    have recorded : s.Recorded h d t := by
      have made := s.makeRecord_recorded draft
      rwa [← s.onRelease_of_done st] at made
    refine ⟨recorded.queue, ?_, ?_, ?_, recorded.other, ?_, ?_, ?_⟩
    · rw [recorded.head]
    · rw [recorded.head]
    · rw [recorded.head]
    · rw [recorded.frame]
    · rw [recorded.frame]
    · rw [recorded.frame]
  · have early : (s.head h).seq.state = .settle ∨ (s.head h).seq.state = .snift := st.imp_right And.left
    obtain ⟨short, header', entry⟩ := (s.head h).releasedEarly_keeps
    obtain ⟨o, outcome⟩ : ∃ o, (s.head h).releasedEarly.seq.outcome = some o := by
      rcases st with settle | ⟨snift, set⟩
      · exact ⟨_, (Head.releasedEarly_of_settle settle plan).2⟩
      · rw [Head.releasedEarly_of_snift (by rw [snift]; decide)]
        exact Option.ne_none_iff_exists'.mp set
    have x : (s.updHead h Head.releasedEarly).head h = (s.head h).releasedEarly := s.head_updHead_same h _
    have recorded := (s.updHead h Head.releasedEarly).makeRecord_recorded (h := h) (cleared := false)
      (by rw [x]; exact Head.draft_of_outcome h _ _ (header'.trans header) outcome)
    rw [s.onRelease_early early, State.drainCheck_queue, State.head_drainCheck, recorded.queue, recorded.head, x]
    refine ⟨_, congrArg TraceQueue.held (TraceQueue.accept_of_room _ _ _ room), rfl, short, ?_, fun settle => ?_, rfl, ?_⟩
    · change (recordFlags _ _ _ _ _).reject = true
      simp [recordFlags, short]
    · obtain ⟨shortSettle, decided⟩ := Head.releasedEarly_of_settle settle plan
      refine ⟨shortSettle, ?_⟩
      rw [decided] at outcome
      exact (Option.some.inj outcome).symm
    · change (s.head h).releasedEarly.entry.l16 = _
      rw [entry]

end Sys2Proof.Proofs
end

section
/-! ## Head records, report errors and event requests (R114, R156, R157, R199 to R201, R205) -/

namespace Sys2Proof.Machine

/-! ### The sections of a head's record (R114, R205) -/

/-- The byte that names a head is the first of both sections. -/
theorem byte_of_head {b : Byte} {h : HeadId} (named : b.toNat = h.val) : BitVec.ofNat 8 h.val = b := by
  rw [← named, BitVec.ofNat_toNat, BitVec.setWidth_eq]

/-- Eight history bytes, the missing ones 0 (R203). -/
theorem historyBytes_eq (l : List FillOutcome) :
    ((l.map fun (o : FillOutcome) => BitVec.ofNat 8 o.code) ++ List.replicate 8 0).take 8 =
      (List.range 8).map fun i => ((l[i]?).map fun o => BitVec.ofNat 8 o.code).getD 0 := by
  refine List.ext_getElem? fun i => ?_
  by_cases short : i < 8
  · rw [List.getElem?_take_of_lt short, List.getElem?_map, List.getElem?_range short, List.getElem?_append,
      List.length_map]
    split
    · next inside => simp [inside]
    · next outside =>
      rw [List.getElem?_replicate, if_pos (by omega), Option.map_some,
        List.getElem?_eq_none (Nat.le_of_not_lt outside)]
      rfl
  · rw [List.getElem?_eq_none (by simp; omega), List.getElem?_eq_none (by simp; omega)]

/-- The service byte, and the byte of its reason (R205). -/
def Service.bytes : Service → Byte × Byte
  | .inService => (0, 0)
  | .blocked => (1, 0)
  | .autoBlocked .faults => (2, 1)
  | .autoBlocked .valve => (2, 2)

theorem Service.bytes_eq (x : Service) : leBytes 1 x.code = [x.bytes.1] ∧ leBytes 1 x.reasonCode = [x.bytes.2] := by
  cases x with
  | inService | blocked => exact ⟨rfl, rfl⟩
  | autoBlocked why => cases why <;> exact ⟨rfl, rfl⟩

theorem Service.reasonCode_ne_zero_iff (x : Service) : x.reasonCode ≠ 0 ↔ x.bytes.2 ≠ 0 := by
  cases x with
  | inService | blocked => decide
  | autoBlocked why => cases why <;> decide

/-- A presence bit, or 0 (R203). -/
def presenceBit (set : Prop) [Decidable set] (weight : Nat) : Nat := if set then weight else 0

theorem mul_flagCode_iff {b : Bool} {set : Prop} [Decidable set] (agree : b = true ↔ set) (weight : Nat) :
    weight * flagCode b = presenceBit set weight := by
  rw [mul_flagCode]
  exact if_congr agree rfl rfl

/-- Section 0 of a head's record byte by byte; an absent last deviation is sent as 0 (R114, R203, R205). -/
theorem headStateBytes_eq (h : HeadId) (x : Head) :
    headStateBytes h x =
      [BitVec.ofNat 8 h.val, 0, BitVec.ofNat 8 x.seq.state.code, x.entry.service.bytes.1,
        BitVec.ofNat 8 (presenceBit (x.entry.service.bytes.2 ≠ 0) 1 + presenceBit (x.entry.lastDeviation ≠ none) 2 +
          presenceBit (x.entry.frozen = true) 4 + presenceBit (x.entry.dripWarning = true) 8),
        x.entry.service.bytes.2] ++
      leBytes 4 x.entry.q ++ leBytes 2 (BitVec.ofInt 16 x.entry.trim).toNat ++ leBytes 2 x.entry.epoch.toNat ++
      leBytes 2 x.entry.l16 ++
      [BitVec.ofNat 8 x.entry.faults, BitVec.ofNat 8 x.entry.suspect, BitVec.ofNat 8 x.entry.history.length] ++
      ((List.range 8).map fun i => ((x.entry.history[i]?).map fun o => BitVec.ofNat 8 o.code).getD 0) ++
      leBytes 2 (BitVec.ofInt 16 (x.entry.lastDeviation.getD 0)).toNat := by
  obtain ⟨code, reason⟩ := x.entry.service.bytes_eq
  have reasonBit : flagCode (x.entry.service.reasonCode != 0) = presenceBit (x.entry.service.bytes.2 ≠ 0) 1 :=
    (Nat.one_mul _).symm.trans (mul_flagCode_iff (bne_iff_ne.trans x.entry.service.reasonCode_ne_zero_iff) 1)
  have deviationBit : 2 * flagCode x.entry.lastDeviation.isSome = presenceBit (x.entry.lastDeviation ≠ none) 2 :=
    mul_flagCode_iff Option.isSome_iff_ne_none 2
  have deviation : (match x.entry.lastDeviation with | some d => leSigned d | none => leBytes 2 0) =
      leBytes 2 (BitVec.ofInt 16 (x.entry.lastDeviation.getD 0)).toNat := by
    cases x.entry.lastDeviation <;> rfl
  rw [← deviation, ← historyBytes_eq, ← reasonBit, ← deviationBit, ← mul_flagCode_iff (b := x.entry.frozen) Iff.rfl,
    ← mul_flagCode_iff (b := x.entry.dripWarning) Iff.rfl, headStateBytes, code, reason]
  rfl

theorem length_headStateBytes (h : HeadId) (x : Head) : (headStateBytes h x).length = 29 := by
  simp [headStateBytes_eq]

theorem length_headStatsBytes (h : HeadId) (x : Head) : (headStatsBytes h x).length = 36 := by
  simp [headStatsBytes, statsList]

/-- HEAD_READ takes its section from the second operand, and section 0 without one (R114). -/
theorem serveHeadRead_of_lt {s : State} {head : Byte} {h : HeadId} (named : head.toNat = h.val) (below : h.val < s.cfg.n)
    (rest : List Byte) :
    serveHeadRead (head :: rest) s =
      let part := if rest.length = 1 then fieldAt rest 0 1 else 0
      if part = 0 then (⟨.ok, headStateBytes h (s.head h)⟩, s)
      else if part = 1 then (⟨.ok, headStatsBytes h (s.head h)⟩, s)
      else (bare .badValue, s) := by
  rw [serveHeadRead, onHeadOperand_of_lt named below]
  simp

theorem serveHeadRead_of_part {s : State} {head : Byte} {h : HeadId} (named : head.toNat = h.val)
    (below : h.val < s.cfg.n) (part : Byte) :
    serveHeadRead [head, part] s =
      if part = 0 then (⟨.ok, headStateBytes h (s.head h)⟩, s)
      else if part = 1 then (⟨.ok, headStatsBytes h (s.head h)⟩, s)
      else (bare .badValue, s) := by
  have zero : part.toNat = 0 ↔ part = 0 := BitVec.toNat_inj (y := 0)
  have one : part.toNat = 1 ↔ part = 1 := BitVec.toNat_inj (y := 1)
  rw [serveHeadRead_of_lt named below]
  simp [zero, one]

/-! ### A serial that no held record carries (R156, R157) -/

theorem serveLevelReport_of_none {ops : List Byte} {s : State} (nonzero : serialOperand ops ≠ 0)
    (absent : s.queue.find (serialOperand ops) = none) :
    serveLevelReport ops s =
      (bare (lookupError s.queue (serialOperand ops)).status, { s with reportErrors := satInc s.reportErrors }) := by
  rw [serveLevelReport, if_neg nonzero, State.report, absent]

section

variable {q : TraceQueue} {serial : U32}

theorem TraceQueue.oldest_eq : q.serials.head? = q.held.findSome? TraceRecord.serial := by
  rw [TraceQueue.serials, List.head?_filterMap]

theorem lookupError_of_ahead (ahead : 2147483648 ≤ (q.lastIssued - serial).toNat) : lookupError q serial = .notYet :=
  if_pos ahead

theorem lookupError_of_old (behind : (q.lastIssued - serial).toNat < 2147483648)
    (old : ∀ x, q.serials.head? = some x → (q.lastIssued - x).toNat < (q.lastIssued - serial).toNat) :
    lookupError q serial = .tooLate := by
  refine (if_neg (Nat.not_le.mpr behind)).trans ?_
  cases oldest : q.serials.head? with
  | none => rfl
  | some x => exact if_pos (old x oldest)

theorem lookupError_of_within (behind : (q.lastIssued - serial).toNat < 2147483648) {x : U32}
    (oldest : q.serials.head? = some x) (within : (q.lastIssued - serial).toNat ≤ (q.lastIssued - x).toNat) :
    lookupError q serial = .notFound := by
  refine (if_neg (Nat.not_le.mpr behind)).trans ?_
  rw [oldest]
  exact if_neg (Nat.not_lt.mpr within)

end

/-! ### The event requests (R199 to R201) -/

variable (s : State)

theorem State.updPort_const (p : Port) (f : PortState → PortState) :
    s.updPort p f = s.updPort p fun _ => f (s.port p) := by
  cases p <;> rfl

theorem State.updPort_same (p : Port) : (s.updPort p fun _ => s.port p) = s := by
  cases p <;> rfl

/-- EVENTS_READ answers the port's block and clears what it returned (R200). -/
theorem serveEventsRead_eq (p : Port) (ops : List Byte) :
    serveEventsRead p ops s =
      (⟨.ok, eventsBytes p s⟩,
        { s.updPort p fun x => { x with events := 0, checkErrors := 0, frameErrors := 0, collisions := 0 } with
          reportErrors := if p = Port.inspection then 0 else s.reportErrors }) := by
  cases p <;> rfl

theorem eventsBytes_eq (p : Port) :
    eventsBytes p s =
      leBytes 2 (s.port p).events.toNat ++ leBytes 2 (s.port p).mask.toNat ++ [BitVec.ofNat 8 (s.port p).attnMode.code] ++
        leBytes 2 (s.port p).checkErrors.toNat ++ leBytes 2 (s.port p).frameErrors.toNat ++
        leBytes 2 (s.port p).collisions.toNat ++ (if p = Port.inspection then leBytes 2 s.reportErrors.toNat else []) := by
  cases p <;> rfl

theorem keptBits_eq (p : Port) : keptBits p = if p = Port.line then 0x017F else 0x01E1 := by
  cases p <;> rfl

/-- The mask operand, least significant byte first (R203). -/
theorem maskOperand_eq (m0 m1 mode : Byte) : BitVec.ofNat 16 (fieldAt [m0, m1, mode] 0 2) = m1 ++ m0 := by
  have value : fieldAt [m0, m1, mode] 0 2 = (m1 ++ m0 : U16).toNat := by
    have low := m0.isLt
    rw [BitVec.toNat_append, ← Nat.shiftLeft_add_eq_or_of_lt low, Nat.shiftLeft_eq]
    simp only [fieldAt_zero_succ, fieldAt_zero_zero]
    omega
  rw [value, BitVec.ofNat_toNat, BitVec.setWidth_eq]

theorem attnModeOf_eq_none {b : Byte} (out : 1 < b.toNat) : attnModeOf b.toNat = none := by
  rw [attnModeOf, if_neg (by omega), if_neg (by omega)]

theorem serveEventsMask_of_none {p : Port} {ops : List Byte} (refused : attnModeOf (fieldAt ops 2 1) = none) :
    serveEventsMask p ops s = (bare .badValue, s) := by
  rw [serveEventsMask, refused]

theorem serveEventsMask_of_some {p : Port} {ops : List Byte} {mode : AttnMode}
    (taken : attnModeOf (fieldAt ops 2 1) = some mode) :
    serveEventsMask p ops s =
      (⟨.ok, leBytes 2 (BitVec.ofNat 16 (fieldAt ops 0 2) &&& keptBits p).toNat ++ leBytes 1 mode.code⟩,
        s.updPort p fun _ =>
          (s.port p).setMask s.now (BitVec.ofNat 16 (fieldAt ops 0 2) &&& keptBits p) mode) := by
  rw [serveEventsMask, taken, ← State.updPort_const]

/-- A pulse from now where a kept bit that was clear in the mask stands, or where LEVEL showed one (R199). -/
theorem PortState.setMask_pulse (now : Nat) (mask : U16) (x : PortState) :
    x.setMask now mask .pulse =
      { x with
        mask := mask, attnMode := .pulse
        pulse :=
          if x.events &&& mask &&& ~~~x.mask ≠ 0 ∨ x.attnMode = .level ∧ x.events &&& mask ≠ 0 then some now
          else x.pulse } := by
  simp only [PortState.setMask, Bool.or_eq_true, Bool.and_eq_true, anySet_iff, decide_eq_true_eq, BitVec.and_assoc]

/-- A pulse that is out ends, and one in progress stays (R199). -/
theorem State.endPulse_of_due {p : Port} {start : Nat} (gives : (s.port p).pulse = some start) (due : start + 2 ≤ s.now) :
    s.endPulse p = s.updPort p fun _ => { s.port p with pulse := none } := by
  rw [State.endPulse, State.updPort_const, gives]
  exact congrArg (fun y => s.updPort p fun _ => y) (if_pos due)

theorem State.endPulse_otherwise {p : Port} (early : ∀ start, (s.port p).pulse = some start → s.now < start + 2) :
    s.endPulse p = s := by
  rw [State.endPulse, State.updPort_const]
  refine Eq.trans (congrArg (fun y => s.updPort p fun _ => y) ?_) (s.updPort_same p)
  cases gives : (s.port p).pulse with
  | none => rfl
  | some start => exact if_neg (Nat.not_le.mpr (early start gives))

theorem exec_attnPulseEnd (dt : Nat) (p : Port) : exec (.attnPulseEnd dt p) s = .next ((s.elapse dt).endPulse p) := rfl

end Sys2Proof.Machine

namespace Sys2Proof.Proofs

open Sys2Proof.Machine

/-- Settles O33: HEAD_READ serves the section its operand names on the state as it is, and both sections are written
out field by field. -/
theorem headReadsReturnASection : Obligations.HeadReadsReturnASection := by
  refine ⟨fun dt p s h head named below => ⟨fun rest form hs => ?_, fun hs => ?_, fun part zero one hs => ?_,
    length_headStateBytes .., ?_, length_headStatsBytes .., ?_⟩, fun h x => ?_, fun h x => ?_, rfl, rfl⟩
  · refine s.next_complete_of_serve hs ?_ ?_
    · rcases form with rfl | rfl <;> simp [Request.lengths]
    · rw [serveHeadRead_of_lt (s := s.elapse dt) named below]
      rcases form with rfl | rfl <;> rfl
  · exact s.next_complete_of_serve hs (by simp [Request.lengths]) (serveHeadRead_of_part (s := s.elapse dt) named below 1)
  · refine s.next_complete_of_serve hs (by simp [Request.lengths]) ?_
    rw [serveHeadRead_of_part (s := s.elapse dt) named below, if_neg zero, if_neg one]
  · simp [headStateBytes, leBytes, byte_of_head named]
  · simp [headStatsBytes, leBytes, byte_of_head named]
  · intro e service bit
    have bytes : service = e.service.bytes := rfl
    rw [bytes]
    exact headStateBytes_eq h x
  · simp [headStatsBytes, statsList, leBytes]

/-- Settles O43: the search finds nothing, and the error goes by the serial's age and that of the oldest held one. -/
theorem unmatchedReportsAreCountedErrors : Obligations.UnmatchedReportsAreCountedErrors := by
  intro dt s b0 b1 b2 b3 d0 d1 serial newest age error oldest hs
  have operand : serialOperand [b0, b1, b2, b3, d0, d1] = serial := serialOperand_report b0 b1 b2 b3 d0 d1
  have head : s.queue.serials.head? = oldest := TraceQueue.oldest_eq
  refine ⟨fun zero => ?_, fun nonzero absent => ?_⟩
  · exact s.next_complete_of_serve hs (by simp [Request.lengths]) (if_pos (operand.trans zero))
  · have counted {reason : ReportError} (why : lookupError s.queue serial = reason) :
        exec (.levelReport dt) s = .next (error reason.status) := by
      have served := serveLevelReport_of_none (ops := [b0, b1, b2, b3, d0, d1]) (s := s.elapse dt) (by rwa [operand])
        (by rw [operand]; exact TraceQueue.find_eq_none absent)
      rw [operand, satInc_eq] at served
      rw [← why]
      exact s.next_complete_of_serve hs (by simp [Request.lengths]) served
    refine ⟨fun ahead => counted (lookupError_of_ahead ahead), fun behind old => counted (lookupError_of_old behind ?_),
      fun behind within => ?_⟩
    · rwa [head]
    · obtain ⟨x, first, younger⟩ := within
      exact counted (lookupError_of_within behind (head.trans first) younger)

/-- Settles O51: what each request serves, and a pulse that is out or in progress. -/
theorem eventRequestsReadClearAndMask : Obligations.EventRequestsReadClearAndMask := by
  intro dt p s x
  have port : (s.elapse dt).port p = x := by cases p <;> rfl
  refine ⟨fun hs => ?_, fun m0 m1 mode hs => ?_, fun start gives due => ?_, fun early => ?_⟩
  · have served := serveEventsRead_eq (s.elapse dt) p []
    rw [eventsBytes_eq, State.updPort_const, port] at served
    exact s.next_complete_of_serve hs (by simp [Request.lengths]) served
  · intro mask pulsed
    have kept : BitVec.ofNat 16 (fieldAt [m0, m1, mode] 0 2) &&& keptBits p = mask := by
      rw [maskOperand_eq, keptBits_eq]
    have operand : fieldAt [m0, m1, mode] 2 1 = mode.toNat := rfl
    refine ⟨fun out => ?_, fun level => ?_, fun pulse => ?_⟩
    · exact s.next_complete_of_serve hs (by simp [Request.lengths])
        (serveEventsMask_of_none _ (operand ▸ attnModeOf_eq_none out))
    · have served := serveEventsMask_of_some (s.elapse dt) (p := p) (ops := [m0, m1, mode]) (mode := .level)
        (by rw [operand, level]; rfl)
      rw [kept, port] at served
      exact s.next_complete_of_serve hs (by simp [Request.lengths]) served
    · have served := serveEventsMask_of_some (s.elapse dt) (p := p) (ops := [m0, m1, mode]) (mode := .pulse)
        (by rw [operand, pulse]; rfl)
      rw [kept, port, PortState.setMask_pulse] at served
      exact s.next_complete_of_serve hs (by simp [Request.lengths]) served
  · rw [exec_attnPulseEnd, (s.elapse dt).endPulse_of_due (by rw [port]; exact gives) due, port]
  · rw [exec_attnPulseEnd, (s.elapse dt).endPulse_otherwise (by rw [port]; exact early)]

end Sys2Proof.Proofs
end

section
/-! ## The blocks of chapter 11, CONFIG_WRITE, and what a frame shifts out (R179, R180, R188, R189) -/

namespace Sys2Proof.Machine

/-! ### The configuration block read and written (R179, R180) -/

/-- The trace mode that a mode byte in range names (R204). -/
theorem traceModeOf_eq (mode : Byte) :
    traceModeOf mode.toNat = if mode = 0 ∨ mode = 1 then some (if mode = 1 then .hold else .roll) else none := by
  have zero : mode.toNat = 0 ↔ mode = 0 := BitVec.toNat_inj (y := 0)
  have one : mode.toNat = 1 ↔ mode = 1 := BitVec.toNat_inj (y := 1)
  simp only [traceModeOf, zero, one]
  by_cases roll : mode = 0
  · rw [if_pos roll, if_pos (.inl roll), roll]
    rfl
  · by_cases hold : mode = 1
    · rw [if_neg roll, if_pos hold, if_pos (.inr hold), if_pos hold]
    · rw [if_neg roll, if_neg hold, if_neg (not_or.mpr ⟨roll, hold⟩)]

/-- The block that 13 bytes carry: N, T, stack depth and trace mode in range, every other field the nearer end. -/
theorem configOf_thirteen (n t0 t1 tolerance s0 s1 depth mode horizon spacing settle h0 h1 : Byte) :
    configOf [n, t0, t1, tolerance, s0, s1, depth, mode, horizon, spacing, settle, h0, h1] =
      if (12 ≤ n.toNat ∧ n.toNat ≤ 128) ∧
          (1024 ≤ t0.toNat + 256 * t1.toNat ∧ t0.toNat + 256 * t1.toNat ≤ 32768) ∧ (depth = 2 ∨ depth = 6) ∧
          (mode = 0 ∨ mode = 1) then
        some {
          n := n.toNat
          t := t0.toNat + 256 * t1.toNat
          tolerance := min tolerance.toNat 15
          stopTimeout := max 20 (min (s0.toNat + 256 * s1.toNat) 2000)
          depth := depth.toNat
          traceMode := if mode = 1 then .hold else .roll
          horizon := max 1 (min horizon.toNat 15)
          spacing := max 1 spacing.toNat
          valveSettle := max 2 (min settle.toNat 100)
          holdLimit := max 1 (min (h0.toNat + 256 * h1.toNat) 600) }
      else none := by
  have spacingFits : min spacing.toNat 255 = spacing.toNat := by omega
  have two : depth.toNat = 2 ↔ depth = 2 := BitVec.toNat_inj (y := 2)
  have six : depth.toNat = 6 ↔ depth = 6 := BitVec.toNat_inj (y := 6)
  by_cases named : mode = 0 ∨ mode = 1
  · have read := (traceModeOf_eq mode).trans (if_pos named)
    simp only [named, and_true]
    simp [configOf, read, clampNat_eq, spacingFits, two, six]
  · have read := (traceModeOf_eq mode).trans (if_neg named)
    simp only [named, and_false, if_false]
    simp [configOf, read]

/-- A new T drops the reference and the speed; a reversing turret is stopped from now (R19). -/
theorem Tracker.newT_eq (now : Nat) (k : Tracker) :
    k.newT now =
      { angle := 0, debt := 0, ref := .unreferenced, slips := 0, indexMark := false, revolutions := k.revolutions,
        motion := if k.motion = .reversing then .stopped else k.motion,
        stopStart := if k.motion = .reversing then now else k.stopStart, revStart := now, timingMark := false,
        speed := 0 } := by
  cases motion : k.motion <;> simp [Tracker.newT, trackerReset, motion]

/-- The 13 bytes of a block (chapter 11). -/
theorem configBytes_eq (c : ConfigBlock) :
    configBytes c =
      [BitVec.ofNat 8 c.n] ++ leBytes 2 c.t ++ [BitVec.ofNat 8 c.tolerance] ++ leBytes 2 c.stopTimeout ++
      [BitVec.ofNat 8 c.depth, if c.traceMode = .hold then 1 else 0, BitVec.ofNat 8 c.horizon, BitVec.ofNat 8 c.spacing,
        BitVec.ofNat 8 c.valveSettle] ++ leBytes 2 c.holdLimit := by
  rw [configBytes, leBytes_traceModeCode]
  rfl

theorem toNat_byte {x : Nat} (h : x < 256) : (BitVec.ofNat 8 x).toNat = x := Nat.mod_eq_of_lt h

/-- Two bytes carry what they were written with. -/
theorem toNat_two_bytes {x : Nat} (h : x < 65536) :
    (BitVec.ofNat 8 x).toNat + 256 * (BitVec.ofNat 8 (x / 256)).toNat = x := by
  rw [BitVec.toNat_ofNat, toNat_byte (by omega)]
  exact Nat.mod_add_div x 256

/-- An answer leaves the port its events (R195). -/
theorem State.line_events_answer (s : State) (r : Response) : (s.finish .line r).line.events = s.line.events := rfl

/-! ### What a frame shifts out (R188, R189) -/

/-- What a frame shifts out while its response lasts, and filler after it (R188, R189). -/
theorem FrameOut.shiftedOut_eq (out : FrameOut) (n : Nat) :
    out.shiftedOut n = (out.bytes ++ List.replicate n 0).take n := by
  refine List.ext_getElem? fun i => ?_
  by_cases inside : i < n
  · rw [FrameOut.shiftedOut, List.getElem?_map, List.getElem?_range inside, List.getElem?_take_of_lt inside,
      List.getElem?_append, Option.map_some, FrameOut.byteAt, List.getD_eq_getElem?_getD]
    split
    · next held => rw [List.getElem?_eq_getElem held]; rfl
    · next ended =>
      rw [List.getElem?_eq_none (Nat.le_of_not_lt ended), List.getElem?_replicate, if_pos (by omega)]
      rfl
  · rw [List.getElem?_eq_none (by simp [FrameOut.shiftedOut]; omega), List.getElem?_eq_none (by simp; omega)]

theorem responseBytes_eq (r : Response) (flag : Bool) :
    responseBytes r flag =
      let body := BitVec.ofNat 8 (r.status.code + if flag then 128 else 0) :: BitVec.ofNat 8 r.data.length :: r.data
      body ++ [checkByte body] := by
  rw [responseBytes, mul_flagCode]

theorem Status.code_bounds (x : Status) : 1 ≤ x.code ∧ x.code ≤ 15 := by
  cases x <;> decide

/-- No status byte is filler (R204). -/
theorem responseBytes_head_ne (r : Response) (flag : Bool) : (FrameOut.response r flag).byteAt 0 ≠ 0 := by
  intro filler
  have first : (FrameOut.response r flag).byteAt 0 = BitVec.ofNat 8 (r.status.code + if flag then 128 else 0) := by
    rw [FrameOut.byteAt, FrameOut.bytes, responseBytes_eq]
    rfl
  have value := congrArg BitVec.toNat (first.symm.trans filler)
  have range := r.status.code_bounds
  have fits : (r.status.code + if flag then 128 else 0) < 256 := by
    split <;> omega
  rw [toNat_byte fits] at value
  exact absurd value (by simp; omega)

/-- A fall of select without an open frame opens one with the port's output (R189). -/
theorem exec_selectFall_of_closed (dt : Nat) {p : Port} {s : State} (closed : (s.port p).frame = none) :
    exec (.selectFall dt p) s =
      .next ((s.elapse dt).updPort p fun _ => { s.port p with frame := some (s.port p).output }) := by
  have opens : exec (.selectFall dt p) s = .next ((s.elapse dt).openFrame p) := rfl
  have port : (s.elapse dt).port p = s.port p := by cases p <;> rfl
  rw [opens, State.openFrame, State.updPort_const, port, closed]

section

variable {x : PortState}

theorem PortState.output_of_busy (busy : x.slot ≠ none) : x.output = .notReady x.collision := by
  obtain ⟨r, slot⟩ := Option.ne_none_iff_exists'.mp busy
  simp only [PortState.output, slot]

theorem PortState.output_of_response {r : Response} (idle : x.slot = none) (full : x.buffer = some r) :
    x.output = .response r x.collision := by
  simp only [PortState.output, idle, full]

theorem PortState.output_of_empty (idle : x.slot = none) (empty : x.buffer = none) : x.output = .filler := by
  simp only [PortState.output, idle, empty]

end

end Sys2Proof.Machine

namespace Sys2Proof.Proofs

open Sys2Proof.Machine

/-- Settles O5: fields within their ranges fit their bytes and lie at no end that they would be brought to. -/
theorem blocksDecodeToWhatTheyEncode : Obligations.BlocksDecodeToWhatTheyEncode := by
  refine ⟨fun c n t tolerance stop depth horizon spacing settle hold => ?_,
    fun k trim threshold turns drip trace => ?_, fun r slot ok => ?_, configBytes_eq, fun k => ?_, fun r => ?_⟩
  · have bytes : configBytes c = [BitVec.ofNat 8 c.n, BitVec.ofNat 8 c.t, BitVec.ofNat 8 (c.t / 256),
        BitVec.ofNat 8 c.tolerance, BitVec.ofNat 8 c.stopTimeout, BitVec.ofNat 8 (c.stopTimeout / 256),
        BitVec.ofNat 8 c.depth, if c.traceMode = .hold then 1 else 0, BitVec.ofNat 8 c.horizon,
        BitVec.ofNat 8 c.spacing, BitVec.ofNat 8 c.valveSettle, BitVec.ofNat 8 c.holdLimit,
        BitVec.ofNat 8 (c.holdLimit / 256)] := configBytes_eq c
    rw [bytes, configOf_thirteen, toNat_byte (by omega), toNat_two_bytes (by omega), toNat_byte (by omega),
      toNat_two_bytes (by omega), toNat_byte (by omega), toNat_byte (by omega), toNat_byte (by omega),
      toNat_byte (by omega), toNat_two_bytes (by omega)]
    have depthByte : BitVec.ofNat 8 c.depth = 2 ∨ BitVec.ofNat 8 c.depth = 6 :=
      depth.imp (congrArg (BitVec.ofNat 8)) (congrArg (BitVec.ofNat 8))
    have modeByte : (if c.traceMode = .hold then (1 : Byte) else 0) = 0 ∨
        (if c.traceMode = .hold then (1 : Byte) else 0) = 1 := by
      split
      · exact .inr rfl
      · exact .inl rfl
    have mode : (if (if c.traceMode = .hold then (1 : Byte) else 0) = 1 then TraceMode.hold else .roll) = c.traceMode := by
      cases c.traceMode <;> rfl
    rw [if_pos ⟨n, t, depthByte, modeByte⟩, mode, Nat.min_eq_left tolerance, Nat.min_eq_left stop.2,
      Nat.max_eq_right stop.1, Nat.min_eq_left horizon.2, Nat.max_eq_right horizon.1, Nat.max_eq_right spacing.1,
      Nat.min_eq_left settle.2, Nat.max_eq_right settle.1, Nat.min_eq_left hold.2, Nat.max_eq_right hold.1]
  · have bytes : tuningBytes k = [BitVec.ofNat 8 k.trimLimit, BitVec.ofNat 8 (k.trimLimit / 256),
        BitVec.ofNat 8 k.blockThreshold, BitVec.ofNat 8 k.suspectTurns, BitVec.ofNat 8 k.dripLimit,
        BitVec.ofNat 8 k.traceThreshold, BitVec.ofNat 8 (k.traceThreshold / 256)] := rfl
    rw [bytes, tuningOf_seven, toNat_two_bytes (by omega), toNat_byte (by omega), toNat_byte (by omega),
      toNat_byte (by omega), toNat_two_bytes (by omega), Nat.min_eq_left trim, Nat.min_eq_left threshold.2,
      Nat.max_eq_right threshold.1, Nat.min_eq_left turns, Nat.min_eq_left trace.2, Nat.max_eq_right trace.1]
  · exact (recipeOf_iff_bytes (by simp [recipeBytes]) slot r).mpr ⟨rfl, ok⟩
  · rfl
  · rw [recipeBytes, leBytes_flagCode]
    rfl

/-- Settles O46: the refusals in their order, the block that the bytes carry, and what each block makes of its new
fields. -/
theorem configWritesTakeEffectAtOnce : Obligations.ConfigWritesTakeEffectAtOnce := by
  refine ⟨fun n t0 t1 tolerance s0 s1 depth mode horizon spacing settle h0 h1 => configOf_thirteen .., ?_⟩
  intro dt s ops hl hs
  have length : ops.length ∈ Request.configWrite.lengths := by simp [Request.lengths, hl]
  refine ⟨fun other => ?_, fun setup busy => ?_, fun setup idle => ?_⟩
  · exact s.next_complete_of_serve hs length (if_pos other)
  · have headsBusy : (s.elapse dt).headsBusy = true := by
      refine Bool.not_eq_false _ ▸ fun clear => ?_
      obtain ⟨h, below, active⟩ := busy
      exact active ((s.elapse dt).headsBusy_eq_false_iff.mp clear h below)
    refine s.next_complete_of_serve hs length ?_
    exact (if_neg (not_not.mpr setup)).trans (if_pos headsBusy)
  · have clear : (s.elapse dt).headsBusy = false := (s.elapse dt).headsBusy_eq_false_iff.mpr idle
    have decoded : serveConfigWrite ops (s.elapse dt) =
        match configOf ops with
        | none => (bare .badValue, s.elapse dt)
        | some new => (⟨.ok, configBytes new⟩, (s.elapse dt).configure new) :=
      (if_neg (not_not.mpr setup)).trans (if_neg (Bool.eq_false_iff.mp clear))
    refine ⟨fun refused => ?_, fun new taken => ?_⟩
    · rw [refused] at decoded
      exact s.next_complete_of_serve hs length decoded
    · intro now retained
      rw [taken] at decoded
      obtain ⟨n, t, tolerance, stop, depth, horizon, spacing, settle, hold⟩ := configOf_bounds taken
      have tracker : ((s.elapse dt).retracked new).tracker = retained := by
        simp only [State.retracked, Tracker.newT_eq, retained]
        rfl
      have retimed := (s.elapse dt).retimed_tracker new
      rw [tracker] at retimed
      obtain ⟨spills, stays⟩ := (s.elapse dt).configure_stack new
      refine ⟨n, t, tolerance, stop, depth, horizon, spacing, settle, hold, _,
        s.next_complete_of_serve hs length decoded, ?_, ?_, rfl, ?_, fun lowered high => ?_, fun kept => ?_,
        fun h above below idle => ?_, fun h outside idle => ?_, ?_, ?_, ?_, ?_⟩
      · simp
      · simp [setup]
      · rw [State.finish_tracker, State.configure_tracker, retimed]
        rfl
      · obtain ⟨stack, line⟩ := spills ⟨lowered, high⟩
        rw [State.finish_stack, State.line_events_answer, stack, line]
        exact ⟨rfl, rfl⟩
      · obtain ⟨stack, line⟩ := stays kept
        rw [State.finish_stack, State.line_events_answer, stack, line]
        exact ⟨rfl, rfl⟩
      · rw [State.head_finish, (s.elapse dt).head_configure_idle new h idle]
        exact if_pos ⟨above, below⟩
      · rw [State.head_finish, (s.elapse dt).head_configure_idle new h idle]
        refine if_neg fun inside => ?_
        obtain ⟨above, below⟩ := inside
        exact outside.elim (Nat.not_lt.mpr above) (Nat.not_le.mpr below)
      · simp
      · simp
      · simp
      · exact (s.elapse dt).configure_insp new

/-- Settles O47: the output goes by slot and buffer, and a frame shifts out its bytes, then filler. -/
theorem selectFallFixesTheOutput : Obligations.SelectFallFixesTheOutput := by
  refine ⟨fun dt p s closed => ?_, fun r flag n => ?_, fun out i j bit => ?_, fun out n => rfl, rfl⟩
  · intro x opened
    refine ⟨fun busy => ?_, fun r idle full => ?_, fun idle empty => ?_⟩
    · rw [exec_selectFall_of_closed dt closed, PortState.output_of_busy busy]
    · rw [exec_selectFall_of_closed dt closed, PortState.output_of_response idle full]
    · rw [exec_selectFall_of_closed dt closed, PortState.output_of_empty idle empty]
  · intro body
    refine ⟨?_, rfl, ?_, responseBytes_head_ne r flag⟩
    · rw [FrameOut.shiftedOut_eq, FrameOut.bytes, responseBytes_eq, List.append_assoc]
      rfl
    · rw [FrameOut.shiftedOut_eq, FrameOut.bytes, List.nil_append, List.take_replicate, Nat.min_self]
  · have byte : (8 * i + j) / 8 = i := by omega
    have place : (8 * i + j) % 8 = j := by omega
    rw [FrameOut.bitAt, byte, place]

end Sys2Proof.Proofs
end

section
/-! ## POCKETS_CLEAR (R71, R183) -/

namespace Sys2Proof.Machine

/-! ### One record without a serial -/

/-- A record with CLEARED has no serial (R136). -/
theorem RecordDraft.hasSerial_of_cleared {d : RecordDraft} (cleared : d.flags.cleared = true) : d.hasSerial = false := by
  simp [RecordDraft.hasSerial, cleared]

/-- What the queue holds after a record with CLEARED: what it held, and that record without a serial (R136). -/
theorem TraceQueue.accept_cleared {d : RecordDraft} (cleared : d.flags.cleared = true) (mode : TraceMode)
    (q : TraceQueue) :
    (q.accept mode d).created = q.created + 1 ∧ (q.accept mode d).nextSerial = q.nextSerial ∧
    ∀ r ∈ (q.accept mode d).held, r ∈ q.held ∨ r.serial = none ∧ r.body.flags.cleared = true := by
  have unnumbered := RecordDraft.hasSerial_of_cleared cleared
  have new : (q.number d).serial = none ∧ (q.number d).body.flags.cleared = true := by
    simp [TraceQueue.number, unnumbered, cleared]
  have next : (q.counted d).nextSerial = q.nextSerial := by
    simp [TraceQueue.counted, unnumbered]
  obtain ⟨created, nextSerial, -⟩ := TraceQueue.accept_numbers (q := q) (mode := mode) (d := d)
  refine ⟨created, nextSerial.trans next, fun r hr => ?_⟩
  rcases List.mem_append.mp ((q.accept_held_sublist mode d).subset hr) with old | last
  · exact .inl old
  · exact .inr (List.mem_singleton.mp last ▸ new)

/-! ### The records of several heads, one after the other -/

/-- What the clearing of the heads of a list makes of a state: one record more for each, none with a serial; those
heads idle, and the others as they were (R71, R183). -/
structure State.Emptied (s : State) (l : List HeadId) (t : State) : Prop where
  created : t.queue.created = s.queue.created + BitVec.ofNat 32 l.length
  nextSerial : t.queue.nextSerial = s.queue.nextSerial
  held : ∀ r ∈ t.queue.held, r ∈ s.queue.held ∨ r.serial = none ∧ r.body.flags.cleared = true
  idle : ∀ h ∈ l, (t.head h).seq = seqReset
  other : ∀ h, h ∉ l → t.head h = s.head h
  mode : t.mode = s.mode
  tracker : t.tracker = s.tracker

/-- The heads of a cycle with a header and an outcome hand over a record (R68). -/
def Head.Done (x : Head) : Prop := x.seq.header ≠ none ∧ x.seq.outcome ≠ none

/-- A head that is done hands over a CLEARED record at POCKETS_CLEAR. -/
theorem State.makeRecord_of_done {s : State} {h : HeadId} (done : (s.head h).Done) :
    ∃ d : RecordDraft, d.flags.cleared = true ∧ s.Recorded h d (s.makeRecord true h) := by
  obtain ⟨header, outcome⟩ := done
  obtain ⟨hd, header⟩ := Option.ne_none_iff_exists'.mp header
  obtain ⟨o, outcome⟩ := Option.ne_none_iff_exists'.mp outcome
  exact ⟨_, rfl, s.makeRecord_recorded (Head.draft_of_outcome h s.tracker.revolutions true header outcome)⟩

theorem State.foldl_makeRecord_emptied {l : List HeadId} (once : l.Nodup) (s : State)
    (done : ∀ h ∈ l, (s.head h).Done) : s.Emptied l (l.foldl (fun x h => x.makeRecord true h) s) := by
  induction l generalizing s with
  | nil =>
    exact ⟨(BitVec.add_zero _).symm, rfl, fun r hr => .inl hr, fun h hh => absurd hh List.not_mem_nil, fun h _ => rfl, rfl, rfl⟩
  | cons h l ih =>
    obtain ⟨fresh, once⟩ := List.nodup_cons.mp once
    obtain ⟨d, cleared, first⟩ := State.makeRecord_of_done (done h (.head l))
    have rest : (s.makeRecord true h).Emptied l _ := ih once (s.makeRecord true h) fun i hi => by
      rw [first.other i fun same => fresh (same ▸ hi)]
      exact done i (.tail h hi)
    obtain ⟨created, nextSerial, held⟩ := s.queue.accept_cleared cleared s.cfg.traceMode
    rw [← first.queue] at created nextSerial held
    refine ⟨?_, rest.nextSerial.trans nextSerial, fun r hr => ?_, fun i hi => ?_, fun i hi => ?_, ?_, ?_⟩
    · rw [List.foldl_cons, rest.created, created, List.length_cons, BitVec.ofNat_add, BitVec.add_assoc,
        BitVec.add_comm 1]
      rfl
    · exact (rest.held r hr).elim (held r) .inr
    · rcases List.mem_cons.mp hi with rfl | later
      · rw [List.foldl_cons, rest.other i fresh]
        exact State.makeRecord_seq ..
      · exact rest.idle i later
    · exact (rest.other i (List.not_mem_of_not_mem_cons hi)).trans (first.other i (List.ne_of_not_mem_cons hi))
    · rw [List.foldl_cons, rest.mode, first.frame]
    · rw [List.foldl_cons, rest.tracker, first.frame]

/-! ### The heads that are cleared -/

variable (s : State)

theorem State.mem_clearable_iff (h : HeadId) :
    h ∈ s.clearable ↔ h.val < s.cfg.n ∧ ((s.head h).seq.state = .pass ∨ (s.head h).seq.state = .discharge) := by
  simp [State.clearable]

theorem State.clearable_eq :
    s.clearable = (List.finRange 128).filter fun h => decide (h.val < s.cfg.n ∧
      ((s.head h).seq.state = .pass ∨ (s.head h).seq.state = .discharge)) := by
  simp [State.clearable]

theorem State.clearable_nodup : s.clearable.Nodup := (List.nodup_finRange 128).filter _

/-- Whatever the order, the heads in PASS and DISCHARGE are emptied (R71, R183). -/
theorem State.clear_emptied (done : ∀ h ∈ s.clearable, (s.head h).Done) :
    s.Emptied s.clearable (s.eachInSomeOrder id s.clearable fun h x => x.makeRecord true h) := by
  obtain ⟨l, n, perm, order⟩ := s.eachInSomeOrder_eq id s.clearable fun h x => x.makeRecord true h
  have emptied := State.foldl_makeRecord_emptied (perm.nodup_iff.mpr s.clearable_nodup) { s with choices := n }
    fun h hh => done h (perm.mem_iff.mp hh)
  rw [order]
  exact ⟨emptied.created.trans (congrArg (fun k => s.queue.created + BitVec.ofNat 32 k) perm.length_eq),
    emptied.nextSerial, emptied.held, fun h hh => emptied.idle h (perm.mem_iff.mpr hh),
    fun h hh => emptied.other h (mt perm.mem_iff.mp hh), emptied.mode, emptied.tracker⟩

theorem State.anySnift_iff :
    (s.anyHead fun x => decide (x.seq.state = .snift)) = true ↔ ∃ h, (s.head h).seq.state = .snift := by
  simp [State.anyHead]

end Sys2Proof.Machine

namespace Sys2Proof.Proofs

open Sys2Proof.Machine

/-- Settles O45: the refusals in their order; otherwise the heads that hold a finished cycle are emptied one by one. -/
theorem pocketsClearEmptiesThePockets : Obligations.PocketsClearEmptiesThePockets := by
  intro dt s hs
  have length : ([] : List Byte).length ∈ Request.pocketsClear.lengths := by simp [Request.lengths]
  have quiet (m : s.mode = .setup ∨ s.mode = .halt) : ¬ (s.elapse dt).mode.filling = true :=
    Bool.eq_false_iff.mp ((Mode.filling_eq_false_iff _).mpr m)
  refine ⟨fun fills => ?_, fun still snifts => ?_, fun still calm done => ?_⟩
  · have filling : (s.elapse dt).mode.filling = true := (Mode.filling_iff _).mpr fills
    exact s.next_complete_of_serve hs length (if_pos filling)
  · have busy := (s.elapse dt).anySnift_iff.mpr snifts
    exact s.next_complete_of_serve hs length ((if_neg (quiet still)).trans (if_pos busy))
  · have free : ¬ _ := mt (s.elapse dt).anySnift_iff.mp (not_exists.mpr calm)
    have emptied := (s.elapse dt).clear_emptied fun h hh =>
      done h (((s.elapse dt).mem_clearable_iff h).mp hh).2
    refine ⟨_, _, s.next_complete_of_serve hs length ((if_neg (quiet still)).trans (if_neg free)),
      congrArg List.length (s.elapse dt).clearable_eq, rfl, ?_, ?_, ?_, ?_, ?_, fun h => ?_⟩
    · rw [State.finish_queue]
      exact emptied.created
    · rw [State.finish_queue]
      exact emptied.nextSerial
    · rw [State.finish_mode]
      exact emptied.mode
    · rw [State.finish_tracker]
      exact emptied.tracker
    · rw [State.finish_queue]
      exact emptied.held
    · have cleared := (s.elapse dt).mem_clearable_iff h
      rw [State.head_finish]
      split
      · next inside => exact emptied.idle h (cleared.mpr inside)
      · next outside => exact emptied.other h (mt cleared.mp outside)

end Sys2Proof.Proofs
end
